-- ==== Sys2Proof/Word.lean ====
section
/-! DEFINITION. The character type of both serial lines and of the table records. -/

namespace Sys2Proof

/-- One character of a telegram or one byte of a table record (R1, R194). -/
abbrev Byte := BitVec 8

/-- A CRC of R5. -/
abbrev Crc := BitVec 16

end Sys2Proof
end

