-- ==== Sys2Proof/Syntax.lean ====
section
/-! DEFINITION. The commands of the block: one constructor for each row of spec/opcode_table.json,
with what the event carries from outside. -/

namespace Sys2Proof

/-- The two serial lines (00). -/
inductive Line where
  | south
  | north
  deriving DecidableEq, Repr

/-- What LINE_IDLE speaks of: the shared south line, or one direction of the full-duplex north link
(R3, R7; log 5). `receiving` tells that a telegram had begun to come in before the line fell idle (log 4). -/
inductive IdleLine where
  | south (receiving : Bool)
  | northReceive (receiving : Bool)
  | northTransmit
  deriving DecidableEq, Repr

/-- What brings the part into a reset hold (R197). -/
inductive HoldCause where
  /-- RESET_N has been low for so many microseconds. -/
  | resetLow (micros : Nat)
  /-- The supply stands at so many millivolts. -/
  | supplyAt (millivolts : Nat)
  deriving DecidableEq, Repr

/-- What may end a reset hold (R126, R197), with the strap bits as the pins stand (R196). -/
inductive Release where
  /-- The rising edge of RESET_N. -/
  | resetHigh (strap : BitVec 3)
  /-- The supply enters its operating range. -/
  | supplyInRange (strap : BitVec 3)
  deriving DecidableEq, Repr

/-- What sends a receiver back to HUNT before a telegram is complete (R3, R4). -/
inductive AbandonCause where
  | framingError
  /-- The payload length character received. -/
  | badLength (length : Byte)
  /-- The character received while ARMED. -/
  | nonFlag (char : Byte)
  deriving DecidableEq, Repr

/-- A north telegram of a wrong kind for its destination (R13). -/
inductive Misdirected where
  | driveSetToOwn (speed : Byte)
  | commandToOwn (payload : List Byte)
  | requestToNode (node : Byte) (payload : List Byte)
  deriving DecidableEq, Repr

/-- The commands the block takes. A request carries the request fields that follow its code; a north
telegram comes from node 0; a south reply carries its addresses and payload fields as received. The operand
`receiving` tells that the receiver of the command's line is taking in a telegram at the command (log 4). -/
inductive Instr where
  | coldReset (release : Release)
  | resetHold (cause : HoldCause)
  | warmReset
  | tableWrite (fields : List Byte)
  | tableRead (fields : List Byte)
  | activate (fields : List Byte)
  | acknowledge (fields : List Byte)
  | status (fields : List Byte)
  | readChannels (fields : List Byte)
  | readZone (fields : List Byte)
  | readFan (fields : List Byte)
  | restart (fields : List Byte)
  | driveSet (node : Byte) (speed : Byte)
  | command (node : Byte) (payload : List Byte)
  | reading (dest : Byte) (source : Byte) (headStatus : Byte) (raw : BitVec 16)
  | driveStatus (dest : Byte) (source : Byte) (running : Byte) (feedback : Byte) (faultCode : Byte)
  | answer (dest : Byte) (source : Byte) (payload : List Byte)
  | replyWindowExpiry (receiving : Bool)
  | localConversionComplete (sample : BitVec 12)
  | cycleTimerExpiry
  | cycleClose
  | fanDrive
  | relayTransaction
  | scanTransaction
  | southRateChange
  | northChoice
  | northTransmissionEnd (receiving : Bool)
  | activationCheckEnd
  | purgeTimerExpiry
  | supervisorSilenceExpiry
  | tachPulse (input : Fin 4)
  | pwmPeriodEnd (output : Fin 4)
  | lineIdle (line : IdleLine)
  | telegramAbandoned (line : Line) (cause : AbandonCause)
  | discardedTelegram (line : Line) (chars : List Byte)
  | dispatchBadRequest (telegram : Misdirected)
  | unknownRequest (code : Byte) (fields : List Byte)
  | southTransmissionEnd
  deriving DecidableEq, Repr

end Sys2Proof
end

