-- ==== Sys2Proof/Config.lean ====
section
/-! DEFINITION. What an implementation fixes and the spec leaves open. The spec leaves no value of an
effect open, so there is no free value here (log 20). -/

namespace Sys2Proof.Config

/-- DESIGN CHOICE (log 1), unsafe: the strap bits that the reset state was sampled with. All pins
open read 0 (R196). -/
def strapAtReset : BitVec 3 := 0#3

end Sys2Proof.Config
end

