-- ==== Sys2Proof/Machine/State.lean ====
section
/-! DEFINITION. The state of the part, block by block (spec/00_scope.md, block diagram), as plain data,
and the state right after a cold reset. -/

namespace Sys2Proof.Machine

/-- The machine stops with no fault: the spec discards or answers every malformed input and answers or
displaces at every limit (R6, R10, R160, R161, R169, R177). A closed type with no constructor (log 30). -/
inductive Fault where
  deriving DecidableEq, Repr

/-- The reasons a command has no meaning. -/
inductive Refusal where
  /-- Raised by the dispatcher alone, for a command that has no meaning yet; no arm raises it now. Safe. -/
  | notModelled (mnemonic : String)
  deriving DecidableEq, Repr

/-! ### Telegrams and the two lines -/

/-- The eleven telegram kinds (01, telegram kinds). -/
inductive TelegramKind where
  | poll
  | reading
  | driveQuery
  | driveSet
  | driveStatus
  | command
  | answer
  | report
  | alert
  | request
  | response
  deriving DecidableEq, Repr

/-- A whole telegram; the frame adds flag, length and CRC. -/
structure Telegram where
  dest : Byte
  source : Byte
  kind : TelegramKind
  payload : List Byte
  deriving DecidableEq, Repr

/-- The bit rates of R1. -/
inductive BitRate where
  | b19200
  | b38400
  | b57600
  | b115200
  deriving DecidableEq, Repr

/-- The receiver states of R3. -/
inductive RxState where
  | hunt
  | armed
  | receiving
  deriving DecidableEq, Repr

/-- What the end of a RESPONSE's transmission brings about besides the free transmitter. -/
inductive ReplyMark where
  | plain
  /-- The RESPONSE to the ACTIVATE whose swap changes the north bit rate (R2). -/
  | endsOldRate
  /-- The DONE of the RESTART that set the restart-pending mark (R189, R191). -/
  | restartDone
  deriving DecidableEq, Repr

/-- The north transmitter (R7, R156). -/
inductive NorthTx where
  /-- The two character times of idle are still being counted. -/
  | settling
  | ready
  | sending (telegram : Telegram) (mark : ReplyMark)
  deriving DecidableEq, Repr

/-- A pending change of the north bit rate (R2). -/
inductive NorthPending where
  | none
  /-- The old rate is kept until the marked RESPONSE has been transmitted. -/
  | awaitingResponse (rate : BitRate)
  /-- That RESPONSE has been transmitted during a reception; the rate applies at the reception's end. -/
  | awaitingReception (rate : BitRate)
  deriving DecidableEq, Repr

/-- The two Loop Interfaces (01). -/
structure Lines where
  southRx : RxState
  northRx : RxState
  southTx : Option Telegram
  northTx : NorthTx
  southRate : BitRate
  northRate : BitRate
  southPending : Option BitRate
  northPending : NorthPending
  /-- R2: the north transmitter begins no telegram until the reception under way has ended. -/
  northHold : Bool
  deriving DecidableEq, Repr

/-! ### Scan Engine -/

/-- The two kinds a relay carries (R170). -/
inductive RelayKind where
  | command
  | driveSet
  deriving DecidableEq, Repr

/-- The mode of a screen window (R167). -/
inductive RelayMode where
  | posted
  | confirmed
  deriving DecidableEq, Repr

/-- The purpose of a transaction (R23); R24 fixes the reply kind it expects. A confirmed relay keeps
the relayed kind, which its RESPONSE echoes (R172). -/
inductive Purpose where
  | scanPoll
  | scanQuery
  | fanDrive
  | relayPosted
  | relayConfirmed (kind : RelayKind)
  deriving DecidableEq, Repr

/-- The record of an open transaction (R23, R24). -/
structure Transaction where
  node : Byte
  purpose : Purpose
  /-- The window's length, taken from the Site record when the transaction opened. -/
  windowMs : Nat
  /-- The telegram's last CRC character has ended and the window runs. -/
  windowBegun : Bool
  deriving DecidableEq, Repr

/-- The cycle timer (R18, R21), with the period it was started for. -/
inductive CycleTimer where
  | stopped
  | running (periodMs : Nat)
  | expired
  deriving DecidableEq, Repr

/-- The Scan Engine (02). `scanPos` is none at end, `slot` is none when IDLE. -/
structure ScanEngine where
  cycle : Nat
  timer : CycleTimer
  cycleOpen : Bool
  scanPos : Option Nat
  slot : Option Transaction
  interleave : Nat
  overrun : Bool
  deriving DecidableEq, Repr

/-! ### Channel Store -/

/-- Channel health (R47). -/
inductive ChannelHealth where
  | unknown
  | healthy
  | suspect
  | failed
  deriving DecidableEq, Repr

/-- A channel runtime record (R47). -/
structure ChannelRec where
  health : ChannelHealth
  value : Nat
  lastRaw : Nat
  missCount : Nat
  recovery : Nat
  fwdValue : Nat
  fwdHealth : ChannelHealth
  deriving DecidableEq, Repr

/-- The record's values after a cold or a warm reset (R61). -/
def ChannelRec.initial : ChannelRec :=
  { health := .unknown, value := 0, lastRaw := 0, missCount := 0, recovery := 0, fwdValue := 0,
    fwdHealth := .unknown }

/-- The Channel Store (03). -/
structure ChannelStore where
  channels : Vector ChannelRec 64
  unclassifiedMark : Bool
  deriving DecidableEq, Repr

/-! ### Zone Evaluator -/

/-- A zone's band (R68). -/
inductive Band where
  | normal
  | elevated
  | alarm
  | danger
  deriving DecidableEq, Repr

/-- A zone runtime record (R68); the ring is oldest first. -/
structure ZoneRec where
  blind : Bool
  held : Nat
  ring : List Nat
  rate : Int
  stored : Band
  effective : Band
  spill : Bool
  qGen : Nat
  qReq : Nat
  shortfall : Bool
  deriving DecidableEq, Repr

/-- The record's values after a cold or a warm reset (R87). -/
def ZoneRec.initial : ZoneRec :=
  { blind := true, held := 0, ring := [], rate := 0, stored := .normal, effective := .normal,
    spill := false, qGen := 0, qReq := 0, shortfall := false }

/-! ### Ventilation Allocator, PWM Unit and Tach Counter -/

/-- Fan health (R94). -/
inductive FanHealth where
  | unknown
  | running
  | failed
  deriving DecidableEq, Repr

/-- The last drive status of a REMOTE fan (R94). -/
structure DriveReply where
  running : Bool
  feedback : Nat
  faultCode : Nat
  deriving DecidableEq, Repr

/-- A fan runtime record (R94). -/
structure FanRec where
  health : FanHealth
  failCount : Nat
  goodCount : Nat
  lastTach : Nat
  lastStatus : Option DriveReply
  allocated : Nat
  manual : Option Nat
  commanded : Nat
  lastSent : Option Nat
  sinceSent : Nat
  flag : Bool
  deriving DecidableEq, Repr

/-- The record's values after a cold or a warm reset (R114). -/
def FanRec.initial : FanRec :=
  { health := .unknown, failCount := 0, goodCount := 0, lastTach := 0, lastStatus := none,
    allocated := 100, manual := none, commanded := 100, lastSent := none, sinceSent := 0,
    flag := false }

/-- The Ventilation Allocator (05); `inhibit` is CHARGER INHIBIT asserted. -/
structure Allocator where
  fans : Vector FanRec 16
  inhibit : Bool
  deriving DecidableEq, Repr

/-- A pair of widths with its period, in microseconds (R106, R107). -/
structure PwmPair where
  high : Nat
  low : Nat
  period : Nat
  deriving DecidableEq, Repr

/-- An output: its running pair and its next slot (R107). -/
structure PwmOutput where
  running : PwmPair
  next : Option PwmPair
  deriving DecidableEq, Repr

/-- Every output after a cold reset (R109): duty 100 with a period of 1000 µs. -/
def PwmOutput.initial : PwmOutput :=
  { running := { high := 1000, low := 0, period := 1000 }, next := none }

/-- The PWM Unit and the Tach Counter (05). -/
structure PwmUnit where
  outputs : Vector PwmOutput 4
  tach : Vector Nat 4
  deriving DecidableEq, Repr

/-! ### Alarm Unit -/

/-- The states of an alarm source (R130). -/
inductive SourceState where
  | normal
  | raised
  | acked
  | returned
  deriving DecidableEq, Repr

/-- An alarm source record (R130). -/
structure SourceRec where
  state : SourceState
  condition : Bool
  notice : Bool
  deriving DecidableEq, Repr

/-- The record's values at a reset, before the device conditions are handed (R152, R153). -/
def SourceRec.initial : SourceRec := { state := .normal, condition := false, notice := false }

/-- The Alarm Unit (07) with the ALARM and HORN relay drivers. -/
structure AlarmUnit where
  sources : Vector SourceRec 77
  alarmOn : Bool
  hornOn : Bool
  deriving DecidableEq, Repr

/-! ### North Link Unit and Relay Screen -/

/-- The kind of a channel (R46). -/
inductive ChannelKind where
  | none
  | gas
  | spill
  | current
  deriving DecidableEq, Repr

/-- A built REPORT (R60, R160). -/
structure Report where
  channel : Fin 64
  kind : ChannelKind
  value : Nat
  health : ChannelHealth
  cycle : Nat
  deriving DecidableEq, Repr

/-- The result codes (01, result codes). -/
inductive ResultCode where
  | done
  | accepted
  | clamped
  | busy
  | notPermitted
  | noRoute
  | timeout
  | badRequest
  | checkFailed
  | crcMismatch
  | aborted
  deriving DecidableEq, Repr

/-- A built RESPONSE (R14, R162). -/
structure Response where
  source : Byte
  echo : Byte
  result : ResultCode
  payload : List Byte
  mark : ReplyMark
  deriving DecidableEq, Repr

/-- The three classes of outgoing north traffic (R155). -/
inductive NorthClass where
  | alert
  | response
  | report
  deriving DecidableEq, Repr

/-- The wait credits (R158). -/
structure Credits where
  alert : Nat
  response : Nat
  report : Nat
  deriving DecidableEq, Repr

/-- The supervisor-silence timer (R163), with the seconds it was started for. -/
inductive SilenceTimer where
  | stopped
  | running (seconds : Nat)
  | expired
  deriving DecidableEq, Repr

/-- The North Link Unit (08). -/
structure NorthLink where
  reports : List Report
  reserved : Nat
  built : List Response
  credits : Credits
  silence : SilenceTimer
  supervisorLost : Bool
  deriving DecidableEq, Repr

/-- An entry of the relay queue (R170). -/
structure RelayEntry where
  node : Byte
  kind : RelayKind
  payload : List Byte
  mode : RelayMode
  deriving DecidableEq, Repr

/-! ### Bank Manager and Operating State Control -/

/-- A bank's bytes: (address, byte) cells in canonical form, an unlisted byte reading 0 (R175). -/
abbrev Memory := List Host.Cell

/-- The names of the two banks (R175). -/
inductive BankId where
  | a
  | b
  deriving DecidableEq, Repr

/-- The Bank Manager states (R176); CHECKING keeps the expected CRC. -/
inductive ManagerState where
  | idle
  | checking (expected : Crc)
  | swapPending
  deriving DecidableEq, Repr

/-- The Bank Manager (09). -/
structure BankManager where
  bankA : Memory
  bankB : Memory
  active : Option BankId
  state : ManagerState
  restartPending : Bool
  /-- The model's own (log 12): the RESTART's DONE has been transmitted, the warm reset is due. -/
  warmResetDue : Bool
  deriving DecidableEq, Repr

/-- The device states (R118). -/
inductive DeviceState where
  | unconfigured
  | purge
  | run
  deriving DecidableEq, Repr

/-- Operating State Control (06); the purge timer keeps the seconds it was started for. -/
structure Control where
  device : DeviceState
  purgeTimer : Option Nat
  ready : Bool
  deriving DecidableEq, Repr

/-! ### The whole part -/

/-- The inputs that hold the part in reset (R126, R197). -/
structure Hold where
  /-- RESET_N is low, and has been for long enough. -/
  resetLow : Bool
  /-- The supply stands below its operating range. -/
  supplyLow : Bool
  deriving DecidableEq, Repr

/-- The state of the part, and the commands waiting for it. -/
structure State where
  hold : Hold
  address : Byte
  lines : Lines
  scan : ScanEngine
  store : ChannelStore
  converter : List (Fin 4)
  zones : Vector ZoneRec 8
  alloc : Allocator
  pwm : PwmUnit
  alarm : AlarmUnit
  north : NorthLink
  relayQueue : List RelayEntry
  banks : BankManager
  control : Control
  pending : List Instr
  deriving DecidableEq, Repr

/-- R126, R197: the part is held in reset, by either input or by both. -/
def Hold.any (h : Hold) : Bool := h.resetLow || h.supplyLow

/-- The part is held in reset. -/
def State.held (s : State) : Bool := s.hold.any

/-! ### Reset values, block by block -/

/-- R126: no input holds the part. -/
def Hold.none : Hold := { resetLow := false, supplyLow := false }

/-- R15: after a cold reset. -/
def Lines.initial : Lines :=
  { southRx := .hunt, northRx := .hunt, southTx := none, northTx := .settling,
    southRate := .b19200, northRate := .b19200, southPending := none, northPending := .none,
    northHold := false }

/-- R35, R36. -/
def ScanEngine.initial : ScanEngine :=
  { cycle := 0, timer := .stopped, cycleOpen := false, scanPos := none, slot := none,
    interleave := 0, overrun := false }

/-- R61, R44. -/
def ChannelStore.initial : ChannelStore :=
  { channels := Vector.replicate 64 ChannelRec.initial, unclassifiedMark := false }

/-- R114, R113. -/
def Allocator.initial : Allocator :=
  { fans := Vector.replicate 16 FanRec.initial, inhibit := true }

/-- R109, R98: after a cold reset. -/
def PwmUnit.initial : PwmUnit :=
  { outputs := Vector.replicate 4 PwmOutput.initial, tach := Vector.replicate 4 0 }

/-- R152, R153: every source NORMAL, before the device conditions are handed, relays off (R126). -/
def AlarmUnit.initial : AlarmUnit :=
  { sources := Vector.replicate 77 SourceRec.initial, alarmOn := false, hornOn := false }

/-- R173. -/
def NorthLink.initial : NorthLink :=
  { reports := [], reserved := 0, built := [], credits := { alert := 0, response := 0, report := 0 },
    silence := .stopped, supervisorLost := false }

/-- R175: after a cold reset. -/
def BankManager.initial : BankManager :=
  { bankA := [], bankB := [], active := none, state := .idle, restartPending := false,
    warmResetDue := false }

/-- R126: after a cold reset. -/
def Control.initial : Control := { device := .unconfigured, purgeTimer := none, ready := false }

/-- R152: source 72 (UNCONFIGURED) as the cold reset leaves it. -/
def SourceRec.unconfiguredRaised : SourceRec :=
  { state := .raised, condition := true, notice := true }

/-- The part right after a cold reset (R126, R152), its strap sampled as `Config.strapAtReset` (log 1),
with no command waiting. -/
def State.reset : State :=
  { hold := .none
    address := 248#8 + Config.strapAtReset.setWidth 8
    lines := .initial
    scan := .initial
    store := .initial
    converter := []
    zones := Vector.replicate 8 ZoneRec.initial
    alloc := .initial
    pwm := .initial
    alarm :=
      { sources := (Vector.replicate 77 SourceRec.initial).set 72 SourceRec.unconfiguredRaised
        alarmOn := true
        hornOn := false }
    north := .initial
    relayQueue := []
    banks := .initial
    control := .initial
    pending := [] }

end Sys2Proof.Machine
end

