-- ==== Sys2Proof/Machine/Memory.lean ====
section
/-! DEFINITION. Reading and writing the bytes of a bank, and updating a fixed number of records. -/

namespace Sys2Proof.Machine

/-- A byte of a bank; an unlisted byte reads 0, as a cold reset leaves it (R175). -/
def Memory.read : Memory → Nat → Byte
  | [], _ => 0#8
  | (a, v) :: m, k => if k = a then v else Memory.read m k

/-- A bank with one byte replaced, in canonical form. -/
def Memory.write : Memory → Nat → Byte → Memory
  | [], k, v => if v = 0#8 then [] else [(k, v)]
  | (a, w) :: m, k, v =>
    if k < a then (if v = 0#8 then (a, w) :: m else (k, v) :: (a, w) :: m)
    else if k = a then (if v = 0#8 then m else (k, v) :: m)
    else (a, w) :: Memory.write m k v

/-- A bank with the bytes from an address on replaced by a list of bytes. -/
def Memory.writeBytes : Memory → Nat → List Byte → Memory
  | m, _, [] => m
  | m, k, v :: vs => Memory.writeBytes (Memory.write m k v) (k + 1) vs

/-- `n` bytes of a bank from an address on. -/
def Memory.readBytes (m : Memory) (k n : Nat) : List Byte :=
  (List.range n).map fun j => m.read (k + j)

/-- Every cell lies above `k`, the addresses strictly rise and no cell holds 0. -/
def Memory.wfFrom : Nat → Memory → Bool
  | _, [] => true
  | k, (a, v) :: m => decide (k ≤ a) && v != 0#8 && Memory.wfFrom (a + 1) m

/-- The canonical form: addresses strictly rising, no cell equal to what an unlisted byte reads as. -/
def Memory.wf (m : Memory) : Bool := Memory.wfFrom 0 m

/-- One byte as a number. -/
def Memory.byteAt (m : Memory) (k : Nat) : Nat := (m.read k).toNat

/-- A two-byte field, high byte first (R194). -/
def Memory.wordAt (m : Memory) (k : Nat) : Nat := 256 * m.byteAt k + m.byteAt (k + 1)

/-- A vector with every entry replaced by a function of its index and itself. -/
def mapFin {α : Type} {n : Nat} (f : Fin n → α → α) (v : Vector α n) : Vector α n :=
  Vector.ofFn fun i => f i v[i]

end Sys2Proof.Machine
end

