-- ==== Sys2Proof/Machine/Operands.lean ====
section
/-! DEFINITION. Codes, telegram frames, the CRC, the layouts of the table records and of the runtime
records (spec/01, spec/11). -/

namespace Sys2Proof.Machine

/-! ### Codes -/

/-- Kind codes (01, telegram kinds). -/
def kindCode : TelegramKind → Byte
  | .poll => 0x11#8
  | .reading => 0x12#8
  | .driveQuery => 0x21#8
  | .driveSet => 0x22#8
  | .driveStatus => 0x23#8
  | .command => 0x31#8
  | .answer => 0x32#8
  | .report => 0x41#8
  | .alert => 0x42#8
  | .request => 0x51#8
  | .response => 0x52#8

/-- The kind a code names, if any (R9). -/
def kindOfCode (c : Byte) : Option TelegramKind :=
  [TelegramKind.poll, .reading, .driveQuery, .driveSet, .driveStatus, .command, .answer, .report,
    .alert, .request, .response].find? fun k => kindCode k == c

/-- Result codes (11, codes). -/
def resultCode : ResultCode → Byte
  | .done => 0x00#8
  | .accepted => 0x01#8
  | .clamped => 0x02#8
  | .busy => 0x10#8
  | .notPermitted => 0x11#8
  | .noRoute => 0x12#8
  | .timeout => 0x13#8
  | .badRequest => 0x20#8
  | .checkFailed => 0x21#8
  | .crcMismatch => 0x22#8
  | .aborted => 0x23#8

/-- The telegram kind of a relay (R30). -/
def relayTelegramKind : RelayKind → TelegramKind
  | .command => .command
  | .driveSet => .driveSet

/-- Request codes (11, requests). -/
def codeTableWrite : Byte := 0x01#8
def codeTableRead : Byte := 0x02#8
def codeActivate : Byte := 0x03#8
def codeAcknowledge : Byte := 0x04#8
def codeStatus : Byte := 0x05#8
def codeReadChannels : Byte := 0x06#8
def codeReadZone : Byte := 0x07#8
def codeReadFan : Byte := 0x08#8
def codeRestart : Byte := 0x09#8

/-- A flag as one byte. -/
def boolByte (b : Bool) : Byte := if b then 1#8 else 0#8

/-- A number in one byte. -/
def u8 (n : Nat) : List Byte := [BitVec.ofNat 8 n]

/-- A number in two bytes, high byte first (R194). -/
def u16 (n : Nat) : List Byte := [BitVec.ofNat 8 (n / 256), BitVec.ofNat 8 n]

/-- Channel health codes (11, codes). -/
def channelHealthCode : ChannelHealth → Nat
  | .unknown => 0
  | .healthy => 1
  | .suspect => 2
  | .failed => 3

/-- Fan health codes. -/
def fanHealthCode : FanHealth → Nat
  | .unknown => 0
  | .running => 1
  | .failed => 2

/-- Channel kind codes. -/
def channelKindCode : ChannelKind → Nat
  | .none => 0
  | .gas => 1
  | .spill => 2
  | .current => 3

/-- Band codes, which also give the order of the bands (R76). -/
def bandCode : Band → Nat
  | .normal => 0
  | .elevated => 1
  | .alarm => 2
  | .danger => 3

/-- Source state codes. -/
def sourceStateCode : SourceState → Nat
  | .normal => 0
  | .raised => 1
  | .acked => 2
  | .returned => 3

/-- Device state codes. -/
def deviceCode : DeviceState → Nat
  | .unconfigured => 0
  | .purge => 1
  | .run => 2

/-- Bank identity in STATUS and TABLE READ. -/
def bankCode : Option BankId → Nat
  | none => 0
  | some .a => 1
  | some .b => 2

/-- Bank Manager state codes. -/
def managerCode : ManagerState → Nat
  | .idle => 0
  | .checking _ => 1
  | .swapPending => 2

/-! ### CRC and frame -/

/-- One bit of the CRC register of R5: shifted toward its most significant end, and combined with
0x1021 when the bit shifted out differs from the bit taken. -/
def crcBit (r : Crc) (bit : Bool) : Crc :=
  if r.msb != bit then (r <<< 1) ^^^ 0x1021#16 else r <<< 1

/-- One character, most significant bit first (R5). -/
def crcByte (r : Crc) (b : Byte) : Crc :=
  [7, 6, 5, 4, 3, 2, 1, 0].foldl (fun acc i => crcBit acc (b.getLsbD i)) r

/-- The CRC of R5 over a run of characters, from 0xFFFF. -/
def crc16 (bytes : List Byte) : Crc := bytes.foldl crcByte 0xFFFF#16

/-- The characters a telegram's CRC covers: destination, source, kind, length, payload (R5). -/
def Telegram.covered (t : Telegram) : List Byte :=
  [t.dest, t.source, kindCode t.kind, BitVec.ofNat 8 t.payload.length] ++ t.payload

/-- The characters of a telegram as the part sends them (11, frame; R5, R14). -/
def Telegram.frame (t : Telegram) : List Byte :=
  [0xC3#8] ++ t.covered ++ u16 (crc16 t.covered).toNat

/-- The CRC check of R5 on the characters of a complete telegram. -/
def frameCrcOk (chars : List Byte) : Bool :=
  let covered := (chars.drop 1).take (chars.length - 3)
  decide (chars.drop (chars.length - 2) = u16 (crc16 covered).toNat)

/-- Whether the characters are one complete telegram: the flag, a length of 0..48, and that many
payload characters followed by two CRC characters (R3, R4). -/
def frameComplete (chars : List Byte) : Bool :=
  match chars[0]?, chars[4]? with
  | some flag, some n => decide (flag = 0xC3#8 ∧ n.toNat ≤ 48 ∧ chars.length = n.toNat + 7)
  | _, _ => false

/-- The telegram in the characters of a complete frame, when its kind code is one of the eleven. -/
def frameTelegram (chars : List Byte) : Option Telegram :=
  match chars with
  | _ :: dest :: source :: code :: n :: rest =>
    (kindOfCode code).map fun kind => { dest, source, kind, payload := rest.take n.toNat }
  | _ => none

/-- The payload length range of a kind (01, telegram kinds; R9). -/
def payloadLengthOk (kind : TelegramKind) (n : Nat) : Bool :=
  match kind with
  | .poll => n == 0
  | .reading => n == 3
  | .driveQuery => n == 0
  | .driveSet => n == 1
  | .driveStatus => n == 3
  | .command => decide (n ≤ 48)
  | .answer => decide (n ≤ 48)
  | .report => n == 7
  | .alert => n == 8
  | .request => decide (1 ≤ n ∧ n ≤ 48)
  | .response => decide (2 ≤ n ∧ n ≤ 48)

/-- The checks of R9 on a telegram received on a line. -/
def passesR9 (line : Line) (t : Telegram) : Bool :=
  payloadLengthOk t.kind t.payload.length &&
    (match line, t.kind with
     | .south, .reading =>
       (match t.payload with
        | status :: _ => decide (status.toNat ≤ 2)
        | [] => false)
     | .south, .driveStatus => true
     | .south, .answer => true
     | .north, .driveSet => true
     | .north, .command => true
     | .north, .request => true
     | _, _ => false)

/-- A field node address, 1..247 (R8). -/
def isNode (node : Byte) : Bool := decide (1 ≤ node.toNat ∧ node.toNat ≤ 247)

/-! ### The tables of a bank -/

/-- The first byte, record length and size of the table of an id (R178, R195; 11, table records). -/
def tableLayout : Nat → Option (Nat × Nat × Nat)
  | 0 => some (0, 28, 1)
  | 1 => some (28, 6, 16)
  | 2 => some (124, 16, 64)
  | 3 => some (1148, 22, 8)
  | 4 => some (1324, 12, 16)
  | 5 => some (1516, 3, 64)
  | 6 => some (1708, 4, 8)
  | 7 => some (1740, 1, 14)
  | _ => none

/-- The length of a bank image (R195). -/
def imageLength : Nat := 1754

/-- The image of a bank: tables in id order, records in index order, every byte as stored (R183, R195). -/
def bankImage (m : Memory) : List Byte := m.readBytes 0 imageLength

/-- The first byte of a record. -/
def windowAt (i : Nat) : Nat := 28 + 6 * i
def channelAt (i : Nat) : Nat := 124 + 16 * i
def zoneAt (i : Nat) : Nat := 1148 + 22 * i
def fanAt (i : Nat) : Nat := 1324 + 12 * i
def scanAt (i : Nat) : Nat := 1516 + 3 * i
def screenAt (i : Nat) : Nat := 1708 + 4 * i
def policyAt (i : Nat) : Nat := 1740 + i

/-- The bit rate a code of the Site record names (11, Site record). -/
def bitRateOfCode : Nat → Option BitRate
  | 1 => some .b19200
  | 2 => some .b38400
  | 3 => some .b57600
  | 4 => some .b115200
  | _ => none

/-- The Site record (11). The fields stand as stored; R184 judges their ranges. -/
structure Site where
  southRate : Option BitRate
  northRate : Option BitRate
  scanPeriod : Nat
  pollTimeout : Nat
  relayTimeout : Nat
  interleave : Nat
  silence : Nat
  purgeTime : Nat
  rankAlert : Nat
  rankResponse : Nat
  rankReport : Nat
  levelOrder : List Nat
  /-- 0..3, or 255 for none. -/
  immediate : Nat
  audible : Nat
  pwmPeriods : List Nat
  deriving DecidableEq, Repr

/-- The Site record of a bank. -/
def siteOf (m : Memory) : Site :=
  { southRate := bitRateOfCode (m.byteAt 0)
    northRate := bitRateOfCode (m.byteAt 1)
    scanPeriod := m.wordAt 2
    pollTimeout := m.byteAt 4
    relayTimeout := m.wordAt 5
    interleave := m.byteAt 7
    silence := m.byteAt 8
    purgeTime := m.wordAt 9
    rankAlert := m.byteAt 11
    rankResponse := m.byteAt 12
    rankReport := m.byteAt 13
    levelOrder := [m.byteAt 14, m.byteAt 15, m.byteAt 16, m.byteAt 17]
    immediate := m.byteAt 18
    audible := m.byteAt 19
    pwmPeriods := [m.wordAt 20, m.wordAt 22, m.wordAt 24, m.wordAt 26] }

/-- The PWM period of an output in the Site record (R106). -/
def Site.pwmPeriod (site : Site) (k : Fin 4) : Nat := site.pwmPeriods.getD k.val 0

/-- Target of a window (R40). -/
inductive WindowTarget where
  | channel
  | fan
  deriving DecidableEq, Repr

/-- The reply kind a window accepts (R40). -/
inductive ReplyKind where
  | reading
  | driveStatus
  | answer
  deriving DecidableEq, Repr

/-- Forward policy (R40). -/
inductive ForwardPolicy where
  | none
  | all
  | change
  deriving DecidableEq, Repr

/-- A Window Table entry (R40; 11). -/
structure WindowEntry where
  enable : Bool
  target : WindowTarget
  accepts : ReplyKind
  policy : ForwardPolicy
  base : Byte
  mask : Byte
  targetBase : Nat
  deadband : Nat
  deriving DecidableEq, Repr

/-- The window of an index. -/
def windowOf (m : Memory) (i : Nat) : WindowEntry :=
  let flags := m.byteAt (windowAt i)
  { enable := flags.testBit 0
    target := if flags.testBit 1 then .fan else .channel
    accepts := if flags.testBit 2 then .driveStatus else .reading
    policy := if flags / 8 % 4 = 0 then .none else if flags / 8 % 4 = 1 then .all else .change
    base := m.read (windowAt i + 1)
    mask := m.read (windowAt i + 2)
    targetBase := m.byteAt (windowAt i + 3)
    deadband := m.wordAt (windowAt i + 4) % 1024 }

/-- The channel kind of two bits (11, Channel record). -/
def channelKindOfBits : Nat → ChannelKind
  | 0 => .none
  | 1 => .gas
  | 2 => .spill
  | _ => .current

/-- A Channel Table entry (R46; 11). -/
structure ChannelEntry where
  kind : ChannelKind
  zone : Nat
  rawLow : Nat
  rawHigh : Nat
  offset : Nat
  gain : Nat
  missLimit : Nat
  trip : Nat
  cells : Nat
  fallback : Nat
  deriving DecidableEq, Repr

/-- The Channel Table entry of an index. -/
def channelOf (m : Memory) (i : Nat) : ChannelEntry :=
  { kind := channelKindOfBits (m.byteAt (channelAt i) % 4)
    zone := m.byteAt (channelAt i) / 4 % 8
    rawLow := m.wordAt (channelAt i + 1) % 4096
    rawHigh := m.wordAt (channelAt i + 3) % 4096
    offset := m.wordAt (channelAt i + 5) % 4096
    gain := m.wordAt (channelAt i + 7)
    missLimit := m.byteAt (channelAt i + 9)
    trip := m.wordAt (channelAt i + 10)
    cells := m.wordAt (channelAt i + 12)
    fallback := m.wordAt (channelAt i + 14) }

/-- A Zone Table entry (R66; 11). -/
structure ZoneEntry where
  enable : Bool
  minHeads : Nat
  decay : Nat
  tE : Nat
  tA : Nat
  tD : Nat
  hysteresis : Nat
  rateLimit : Nat
  kq : Nat
  qN : Nat
  qE : Nat
  qA : Nat
  qS : Nat
  minDuty : Nat
  deriving DecidableEq, Repr

/-- The Zone Table entry of an index. -/
def zoneOf (m : Memory) (i : Nat) : ZoneEntry :=
  { enable := (m.byteAt (zoneAt i)).testBit 0
    minHeads := m.byteAt (zoneAt i + 1)
    decay := m.byteAt (zoneAt i + 2)
    tE := m.wordAt (zoneAt i + 3)
    tA := m.wordAt (zoneAt i + 5)
    tD := m.wordAt (zoneAt i + 7)
    hysteresis := m.byteAt (zoneAt i + 9)
    rateLimit := m.wordAt (zoneAt i + 10)
    kq := m.byteAt (zoneAt i + 12)
    qN := m.wordAt (zoneAt i + 13)
    qE := m.wordAt (zoneAt i + 15)
    qA := m.wordAt (zoneAt i + 17)
    qS := m.wordAt (zoneAt i + 19)
    minDuty := m.byteAt (zoneAt i + 21) }

/-- A Fan Table entry (R93; 11). -/
structure FanEntry where
  enable : Bool
  remote : Bool
  zone : Nat
  output : Nat
  node : Byte
  rated : Nat
  tachMin : Nat
  failCycles : Nat
  recoverCycles : Nat
  refreshCycles : Nat
  deriving DecidableEq, Repr

/-- The Fan Table entry of an index. -/
def fanOf (m : Memory) (i : Nat) : FanEntry :=
  { enable := (m.byteAt (fanAt i)).testBit 0
    remote := (m.byteAt (fanAt i)).testBit 1
    zone := m.byteAt (fanAt i + 1)
    output := m.byteAt (fanAt i + 2)
    node := m.read (fanAt i + 3)
    rated := m.wordAt (fanAt i + 4)
    tachMin := m.wordAt (fanAt i + 6)
    failCycles := m.byteAt (fanAt i + 8)
    recoverCycles := m.byteAt (fanAt i + 9)
    refreshCycles := m.byteAt (fanAt i + 10) }

/-- An enabled REMOTE fan. -/
def FanEntry.enabledRemote (e : FanEntry) : Bool := e.enable && e.remote

/-- An enabled LOCAL fan. -/
def FanEntry.enabledLocal (e : FanEntry) : Bool := e.enable && !e.remote

/-- A Scan Table entry (11); `request` is the stored request kind code. -/
structure ScanEntry where
  node : Byte
  request : Byte
  cadence : Nat
  deriving DecidableEq, Repr

/-- The Scan Table entry of an index. -/
def scanOf (m : Memory) (i : Nat) : ScanEntry :=
  { node := m.read (scanAt i), request := m.read (scanAt i + 1), cadence := m.byteAt (scanAt i + 2) }

/-- A live entry of the scan list: all three fields in range (R16). -/
def ScanEntry.live (e : ScanEntry) : Bool :=
  isNode e.node && (e.request == kindCode .poll || e.request == kindCode .driveQuery) &&
    (e.cadence == 1 || e.cadence == 2 || e.cadence == 4 || e.cadence == 8)

/-- The length of the scan list: the entries before the first whose node is 0 (R16). -/
def scanListLength (m : Memory) : Nat :=
  ((List.range 64).find? fun i => (scanOf m i).node == 0#8).getD 64

/-- A Screen Table entry (R167; 11). -/
structure ScreenEntry where
  enable : Bool
  mode : RelayMode
  permitsCommand : Bool
  permitsDriveSet : Bool
  gated : Bool
  base : Byte
  mask : Byte
  deriving DecidableEq, Repr

/-- The Screen Table entry of an index. -/
def screenOf (m : Memory) (i : Nat) : ScreenEntry :=
  let flags := m.byteAt (screenAt i)
  { enable := flags.testBit 0
    mode := if flags.testBit 1 then .confirmed else .posted
    permitsCommand := flags.testBit 2
    permitsDriveSet := flags.testBit 3
    gated := flags.testBit 4
    base := m.read (screenAt i + 1)
    mask := m.read (screenAt i + 2) }

/-- Whether a screen window permits a kind (R169). -/
def ScreenEntry.permits (e : ScreenEntry) : RelayKind → Bool
  | .command => e.permitsCommand
  | .driveSet => e.permitsDriveSet

/-- The class of an alarm kind (R137). -/
inductive AlarmClass where
  | selfClearing
  | latching
  deriving DecidableEq, Repr

/-- Class codes (11, codes). -/
def classCode : AlarmClass → Nat
  | .selfClearing => 0
  | .latching => 1

/-- An Alarm Policy entry (R137; 11). -/
structure PolicyEntry where
  level : Nat
  cls : AlarmClass
  deriving DecidableEq, Repr

/-- The Alarm Policy entry of a kind number. -/
def policyOf (m : Memory) (k : Nat) : PolicyEntry :=
  let b := m.byteAt (policyAt k)
  { level := b % 4, cls := if b.testBit 2 then .latching else .selfClearing }

/-! ### Runtime records as the responses carry them (11) -/

/-- The 10 bytes of a channel runtime record. -/
def channelBytes (r : ChannelRec) : List Byte :=
  u8 (channelHealthCode r.health) ++ u16 r.value ++ u16 r.lastRaw ++ u8 r.missCount ++
    u8 r.recovery ++ u16 r.fwdValue ++ u8 (channelHealthCode r.fwdHealth)

/-- A flag's weight in a byte of flags. -/
def flagBit (b : Bool) (weight : Nat) : Nat := if b then weight else 0

/-- The bytes of a zone runtime record (R91). -/
def zoneBytes (zone : Nat) (r : ZoneRec) : List Byte :=
  u8 zone ++
    u8 (bandCode r.stored + 4 * bandCode r.effective + flagBit r.blind 16 + flagBit r.spill 32 +
      flagBit r.shortfall 64) ++
    u16 r.held ++ u16 (BitVec.ofInt 16 r.rate).toNat ++ u16 r.qGen ++ u16 r.qReq ++
    u8 r.ring.length ++ r.ring.flatMap u16

/-- The 13 bytes of a fan runtime record. -/
def fanBytes (r : FanRec) : List Byte :=
  let st := r.lastStatus.getD { running := false, feedback := 0, faultCode := 0 }
  u8 (fanHealthCode r.health) ++ u8 r.failCount ++ u8 r.goodCount ++ u16 r.lastTach ++
    u8 (flagBit r.lastStatus.isSome 1 + flagBit st.running 2 + flagBit r.flag 4) ++
    u8 st.feedback ++ u8 st.faultCode ++ u8 r.allocated ++ u8 (r.manual.getD 255) ++
    u8 r.commanded ++ u8 (r.lastSent.getD 255) ++ u8 r.sinceSent

/-- The zone byte of the status record (11). -/
def zoneStatusByte (r : ZoneRec) : Nat :=
  bandCode r.effective + flagBit r.blind 4 + flagBit r.spill 8 + flagBit r.shortfall 16

/-- The REPORT telegram's payload (11). -/
def reportBytes (r : Report) : List Byte :=
  u8 r.channel.val ++ u8 (channelKindCode r.kind) ++ u16 r.value ++
    u8 (channelHealthCode r.health) ++ u16 r.cycle

end Sys2Proof.Machine
end

