-- ==== Sys2Proof/Machine/Flags.lean ====
section
/-! DEFINITION. The alarm policy in force, the alarm source state machine, notices and the ALARM and
HORN relays (spec/07), and the active bank that the policy and every block read. -/

namespace Sys2Proof.Machine

/-! ### The banks' roles (R175) -/

/-- The bank of a name. -/
def BankManager.bank (b : BankManager) : BankId → Memory
  | .a => b.bankA
  | .b => b.bankB

/-- The name of the standby bank: Bank A while none is active. -/
def BankManager.standbyId (b : BankManager) : BankId :=
  match b.active with
  | none => .a
  | some .a => .b
  | some .b => .a

/-- The active bank, if any. -/
def BankManager.activeBank (b : BankManager) : Option Memory := b.active.map b.bank

/-- The standby bank. -/
def BankManager.standbyBank (b : BankManager) : Memory := b.bank b.standbyId

/-- The tables the blocks work from; with no active bank, tables in which nothing is enabled. -/
def State.tables (s : State) : Memory := s.banks.activeBank.getD []

/-- The active Site record. -/
def State.site (s : State) : Site := siteOf s.tables

/-! ### Alarm policy (R137, R138) -/

/-- The policy in force. -/
structure Policy where
  entries : List PolicyEntry
  order : List Nat
  immediate : Option Nat
  audible : List Nat
  deriving DecidableEq, Repr

/-- R138: the built-in policy. -/
def Policy.builtIn : Policy :=
  { entries := List.replicate 14 { level := 0, cls := .selfClearing }, order := [0, 1, 2, 3],
    immediate := none, audible := [] }

/-- R137: the policy of a bank. -/
def Policy.ofBank (m : Memory) : Policy :=
  { entries := (List.range 14).map (policyOf m)
    order := (siteOf m).levelOrder
    immediate := if (siteOf m).immediate ≤ 3 then some (siteOf m).immediate else none
    audible := [0, 1, 2, 3].filter fun k => (siteOf m).audible.testBit k }

/-- The policy in force: the active bank's, or the built-in one. -/
def BankManager.policy (b : BankManager) : Policy :=
  match b.activeBank with
  | some m => Policy.ofBank m
  | none => Policy.builtIn

/-- The policy in force. -/
def State.policy (s : State) : Policy := s.banks.policy

/-- The kind number of a source (R130): zone × 9 + k for zone sources, 9..13 for the device sources. -/
def kindOfSource (i : Fin 77) : Nat := if i.val < 72 then i.val % 9 else i.val - 63

/-- The entry of a source's kind. -/
def Policy.entry (p : Policy) (i : Fin 77) : PolicyEntry :=
  p.entries.getD (kindOfSource i) { level := 0, cls := .selfClearing }

/-- A source's level (R137). -/
def Policy.level (p : Policy) (i : Fin 77) : Nat := (p.entry i).level

/-- A source's class (R137). -/
def Policy.cls (p : Policy) (i : Fin 77) : AlarmClass := (p.entry i).cls

/-- Whether a source is audible (R137). -/
def Policy.isAudible (p : Policy) (i : Fin 77) : Bool := p.audible.contains (p.level i)

/-! ### Sources (R131, R140 to R143) -/

/-- The device sources (R130). -/
def sourceUnconfigured : Fin 77 := 72
def sourcePurge : Fin 77 := 73
def sourceOverrun : Fin 77 := 74
def sourceSupervisorLost : Fin 77 := 75
def sourceUnclassified : Fin 77 := 76

/-- The source of a zone and a zone kind 0..8 (R130). -/
def zoneSource (z : Fin 8) (k : Fin 9) : Fin 77 := ⟨9 * z.val + k.val, by omega⟩

/-- The SPILL source of a zone. -/
def spillSource (z : Fin 8) : Fin 77 := zoneSource z 5

/-- R140: the state of a source after its condition arises. -/
def stateAtArising : SourceState → SourceState
  | .normal => .raised
  | .returned => .raised
  | .raised => .raised
  | .acked => .acked

/-- R141: the state of a source after its condition clears, under the class of its kind. -/
def stateAtClearing (cls : AlarmClass) : SourceState → SourceState
  | .raised => (match cls with
    | .selfClearing => .normal
    | .latching => .returned)
  | .acked => .normal
  | .normal => .normal
  | .returned => .returned

/-- R142: the state of a source after an acknowledgement. -/
def stateAtAcknowledge : SourceState → SourceState
  | .raised => .acked
  | .returned => .normal
  | .normal => .normal
  | .acked => .acked

/-- A record moved to a state; the notice flag is set when the state changes (R143). -/
def SourceRec.moveTo (r : SourceRec) (st : SourceState) : SourceRec :=
  { r with state := st, notice := r.notice || st != r.state }

/-- R131: a record that is handed a condition; only a difference from the record moves the source. -/
def SourceRec.take (cls : AlarmClass) (holds : Bool) (r : SourceRec) : SourceRec :=
  match r.condition, holds with
  | false, true => { r.moveTo (stateAtArising r.state) with condition := true }
  | true, false => { r.moveTo (stateAtClearing cls r.state) with condition := false }
  | _, _ => r

/-- R142: an acknowledged record. -/
def SourceRec.acknowledge (r : SourceRec) : SourceRec := r.moveTo (stateAtAcknowledge r.state)

/-- Whether an acknowledgement changes the record's state (R149). -/
def SourceRec.ackChanges (r : SourceRec) : Bool := stateAtAcknowledge r.state != r.state

/-- A source awaiting acknowledgement (R151). -/
def SourceRec.awaitsAck (r : SourceRec) : Bool := r.state == .raised || r.state == .returned

/-! ### Relays (R146 to R148) -/

/-- R146: the ALARM relay is energized while some source is not NORMAL. -/
def alarmRelayOf (sources : Vector SourceRec 77) : Bool :=
  (List.finRange 77).any fun i => sources[i].state != .normal

/-- R148: the HORN is on while some source of an audible level is RAISED or RETURNED. -/
def hornRelayOf (p : Policy) (sources : Vector SourceRec 77) : Bool :=
  (List.finRange 77).any fun i => p.isAudible i && sources[i].awaitsAck

/-- R147, R148: the relays evaluated from the sources and the policy in force. -/
def evalRelays (s : State) : State :=
  { s with alarm := { s.alarm with
      alarmOn := alarmRelayOf s.alarm.sources
      hornOn := hornRelayOf s.policy s.alarm.sources } }

/-- R131: a condition handed to the Alarm Unit; the relays are evaluated once at the event's end. -/
def handCondition (i : Fin 77) (holds : Bool) (s : State) : State :=
  { s with alarm := { s.alarm with
      sources := s.alarm.sources.set i (SourceRec.take (s.policy.cls i) holds s.alarm.sources[i]) } }

/-- R132: the conditions of every zone source handed at one close. -/
def handZoneConditions (conds : Fin 77 → Bool) (s : State) : State :=
  { s with alarm := { s.alarm with
      sources := mapFin (fun i r => if i.val < 72 then SourceRec.take (s.policy.cls i) (conds i) r else r)
        s.alarm.sources } }

/-- R142, R149: the sources that a selection names, acknowledged. -/
def acknowledgeSources (sel : Fin 77 → Bool) (s : State) : State :=
  { s with alarm := { s.alarm with
      sources := mapFin (fun i r => if sel i then r.acknowledge else r) s.alarm.sources } }

/-- R149: how many sources an acknowledgement of a selection changes. -/
def countAckChanges (sel : Fin 77 → Bool) (s : State) : Nat :=
  (List.finRange 77).countP fun i => sel i && s.alarm.sources[i].ackChanges

/-! ### Notices (R144) -/

/-- The flagged sources, in index order. -/
def flaggedSources (s : State) : List (Fin 77) :=
  (List.finRange 77).filter fun i => s.alarm.sources[i].notice

/-- R144: an immediate notice is pending. -/
def immediateSource (s : State) : Option (Fin 77) :=
  match s.policy.immediate with
  | none => none
  | some l => (flaggedSources s).find? fun i => s.policy.level i == l

/-- R144: the next notice. -/
def nextNotice (s : State) : Option (Fin 77) :=
  match immediateSource s with
  | some i => some i
  | none =>
    match s.policy.order.findSome? fun l => (flaggedSources s).find? fun i => s.policy.level i == l with
    | some i => some i
    | none => (flaggedSources s).head?

/-- The zone byte of an ALERT: 0..7, or 255 for a device source (11). -/
def alertZone (i : Fin 77) : Nat := if i.val < 72 then i.val / 9 else 255

/-- The ALERT of a source, as its state and the policy stand (R145; 11). -/
def alertPayload (i : Fin 77) (s : State) : List Byte :=
  u8 i.val ++ u8 (alertZone i) ++ u8 (kindOfSource i) ++ u8 (s.policy.level i) ++
    u8 (sourceStateCode s.alarm.sources[i].state) ++ u8 (classCode (s.policy.cls i)) ++
    u16 s.scan.cycle

/-- R145: a source's notice flag cleared. -/
def clearNotice (i : Fin 77) (s : State) : State :=
  { s with alarm := { s.alarm with
      sources := s.alarm.sources.set i { s.alarm.sources[i] with notice := false } } }

/-- R151: the sources of a level whose notice flag is set, and those awaiting acknowledgement. -/
def levelSummary (level : Nat) (s : State) : List Byte :=
  u8 ((List.finRange 77).countP fun i => s.policy.level i == level && s.alarm.sources[i].notice) ++
    u8 ((List.finRange 77).countP fun i => s.policy.level i == level && s.alarm.sources[i].awaitsAck)

end Sys2Proof.Machine
end

