-- ==== Sys2Proof/Machine/Channels.lean ====
section
/-! DEFINITION. Window classification and channel records as functions of plain data (spec/03). -/

namespace Sys2Proof.Machine

/-! ### Classification (R40, R41) -/

/-- R40: an enabled window whose accepted kind agrees with its target. -/
def WindowEntry.live (w : WindowEntry) : Bool :=
  w.enable &&
    (match w.target, w.accepts with
     | .channel, .reading => true
     | .fan, .driveStatus => true
     | _, _ => false)

/-- R41: a live window claims a reply of its kind from a node that matches under the mask. -/
def WindowEntry.claims (w : WindowEntry) (kind : ReplyKind) (node : Byte) : Bool :=
  w.live && w.accepts == kind && (node &&& w.mask) == (w.base &&& w.mask)

/-- R41: the classifying window, the lowest-numbered of those that claim. -/
def classifyingWindow (m : Memory) (kind : ReplyKind) (node : Byte) : Option WindowEntry :=
  ((List.range 16).map (windowOf m)).find? fun w => w.claims kind node

/-- R41: the index a window maps a node to. -/
def WindowEntry.mapped (w : WindowEntry) (node : Byte) : Nat :=
  w.targetBase + (node &&& ~~~w.mask).toNat

/-- R41, R45: the channel, with the classifying window, that a READING from a node reaches. -/
def classifyChannel (m : Memory) (node : Byte) : Option (WindowEntry × Fin 64) :=
  match classifyingWindow m .reading node with
  | none => none
  | some w => if h : w.mapped node < 60 then some (w, ⟨w.mapped node, by omega⟩) else none

/-- R41, R45: the fan that a DRIVE STATUS from a node reaches. -/
def classifyFan (m : Memory) (node : Byte) : Option (Fin 16) :=
  match classifyingWindow m .driveStatus node with
  | none => none
  | some w => if h : w.mapped node < 16 then some ⟨w.mapped node, h⟩ else none

/-! ### From reading to value (R48, R49) -/

/-- The head status of a READING (R9). -/
inductive HeadStatus where
  | ok
  | warmup
  | fault
  deriving DecidableEq, Repr

/-- The head status of a status byte (11, codes). -/
def headStatusOf (b : Byte) : HeadStatus :=
  if b = 0#8 then .ok else if b = 1#8 then .warmup else .fault

/-- R9: a raw value above 4095 is handed on as 4095. -/
def clampRaw (raw : Nat) : Nat := min raw 4095

/-- The kind maximum of R49. -/
def kindMaximum : ChannelKind → Nat
  | .none => 0
  | .gas => 1000
  | .spill => 1000
  | .current => 10000

/-- R49: the corrected value of a valid raw value. -/
def correctedValue (e : ChannelEntry) (raw : Nat) : Nat :=
  min (((raw - e.offset) * e.gain + 2048) / 4096) (kindMaximum e.kind)

/-- The events of a channel record (R48 stage 2, R51). -/
inductive ChannelEvent where
  | valid (value : Nat)
  | miss
  | warmup
  | fault
  deriving DecidableEq, Repr

/-- R48 stage 2: the judgement of a reading. -/
def judgeReading (e : ChannelEntry) (status : HeadStatus) (raw : Nat) : ChannelEvent :=
  match status with
  | .fault => .fault
  | .warmup => .warmup
  | .ok => if e.rawLow ≤ raw ∧ raw ≤ e.rawHigh then .valid (correctedValue e raw) else .miss

/-! ### Channel health (R50 to R52) -/

/-- R50: a valid reading. -/
def ChannelRec.takeValid (value : Nat) (r : ChannelRec) : ChannelRec :=
  match r.health with
  | .failed =>
    if 2 ≤ r.recovery + 1 then { r with value, health := .healthy, missCount := 0, recovery := 0 }
    else { r with value, recovery := r.recovery + 1 }
  | _ => { r with value, health := .healthy, missCount := 0 }

/-- R51: a miss, with the channel's miss limit. -/
def ChannelRec.takeMiss (limit : Nat) (r : ChannelRec) : ChannelRec :=
  match r.health with
  | .failed => { r with recovery := 0 }
  | .unknown =>
    if r.missCount + 1 = limit then { r with missCount := r.missCount + 1, health := .failed, recovery := 0 }
    else { r with missCount := r.missCount + 1 }
  | _ =>
    if r.missCount + 1 = limit then { r with missCount := r.missCount + 1, health := .failed, recovery := 0 }
    else { r with missCount := r.missCount + 1, health := .suspect }

/-- R52: a reading with head status FAULT. -/
def ChannelRec.takeFault (limit : Nat) (r : ChannelRec) : ChannelRec :=
  { r with health := .failed, missCount := limit, recovery := 0 }

/-- R52: a reading with head status WARMUP. -/
def ChannelRec.takeWarmup (r : ChannelRec) : ChannelRec :=
  match r.health with
  | .failed => { r with recovery := 0 }
  | _ => { r with health := .unknown, missCount := 0 }

/-- The record after an event. -/
def ChannelRec.takeEvent (e : ChannelEntry) (ev : ChannelEvent) (r : ChannelRec) : ChannelRec :=
  match ev with
  | .valid v => r.takeValid v
  | .miss => r.takeMiss e.missLimit
  | .warmup => r.takeWarmup
  | .fault => r.takeFault e.missLimit

/-- The absolute difference of two values. -/
def absDiff (a b : Nat) : Nat := (a - b) + (b - a)

/-- An event that is a valid reading. -/
def ChannelEvent.isValid : ChannelEvent → Bool
  | .valid _ => true
  | _ => false

/-- R58 to R60: whether an event that took `old` to `new` queues a REPORT. -/
def reportDue (policy : ForwardPolicy) (deadband : Nat) (ev : ChannelEvent) (old new : ChannelRec) : Bool :=
  let intoFailed := new.health == .failed && old.health != .failed
  match policy with
  | .none => false
  | .all => ev.isValid || intoFailed
  | .change =>
    intoFailed || new.health != new.fwdHealth ||
      (ev.isValid && decide (deadband ≤ absDiff new.value new.fwdValue))

/-- R60: the forwarded fields after a REPORT has been queued. -/
def ChannelRec.forwarded (r : ChannelRec) : ChannelRec :=
  { r with fwdValue := r.value, fwdHealth := r.health }

/-- R70, R79, R81: a channel whose value may be used. -/
def ChannelRec.usable (r : ChannelRec) : Bool := r.health == .healthy || r.health == .suspect

end Sys2Proof.Machine
end

