-- ==== Sys2Proof/Machine/Zones.lean ====
section
/-! DEFINITION. The zone evaluation at a cycle close, as functions of plain data (spec/04). -/

namespace Sys2Proof.Machine

/-- R67: the channels of a kind that name a zone. -/
def zoneChannels (m : Memory) (zone : Nat) (kind : ChannelKind) : List (Fin 64) :=
  (List.finRange 64).filter fun i =>
    (channelOf m i).kind == kind && (channelOf m i).zone == zone

/-- R70: the gas set of a zone. -/
def gasSet (m : Memory) (chs : Vector ChannelRec 64) (zone : Nat) : List (Fin 64) :=
  (zoneChannels m zone .gas).filter fun i => chs[i].usable

/-- R72: the new value of a zone: the largest of its gas set, or its held value when the set is empty. -/
def newValue (m : Memory) (chs : Vector ChannelRec 64) (zone held : Nat) : Nat :=
  match gasSet m chs zone with
  | [] => held
  | i :: rest => rest.foldl (fun acc j => max acc chs[j].value) chs[i].value

/-- R73: the filter step. -/
def filterStep (decay new held : Nat) : Nat :=
  if held ≤ new then new else held - (held - new + 2 ^ decay - 1) / 2 ^ decay

/-- R74: the ring after an append, the oldest entry removed when it would hold a seventh. -/
def ringAppend (ring : List Nat) (v : Nat) : List Nat :=
  (ring ++ [v]).drop ((ring ++ [v]).length - 6)

/-- R75: the newest entry less the oldest. -/
def ringRate (ring : List Nat) : Int := (ring.getLastD 0 : Int) - (ring.headD 0 : Int)

/-- The entry level of a band (R76). -/
def ZoneEntry.entryLevel (e : ZoneEntry) : Band → Nat
  | .normal => 0
  | .elevated => e.tE
  | .alarm => e.tA
  | .danger => e.tD

/-- R76: the candidate band, the highest whose entry level is at most the held value. -/
def candidateBand (e : ZoneEntry) (held : Nat) : Band :=
  if e.tD ≤ held then .danger else if e.tA ≤ held then .alarm
  else if e.tE ≤ held then .elevated else .normal

/-- R77: a band is kept while the held value is at least its entry level less the hysteresis. -/
def keepsBand (e : ZoneEntry) (held : Nat) (b : Band) : Bool :=
  decide (e.entryLevel b ≤ held + e.hysteresis)

/-- R77: the stored band from the candidate and the current band. -/
def storedBand (e : ZoneEntry) (held : Nat) (current : Band) : Band :=
  let cand := candidateBand e held
  if bandCode current ≤ bandCode cand then cand
  else
    (([Band.danger, .alarm, .elevated].filter fun b => bandCode b ≤ bandCode current).find?
      (keepsBand e held)).getD .normal

/-- R78: the rate condition. -/
def rateCondition (e : ZoneEntry) (rate : Int) : Bool :=
  e.rateLimit != 0 && decide ((e.rateLimit : Int) ≤ rate)

/-- R78: the effective band. -/
def effectiveBand (e : ZoneEntry) (rate : Int) (stored : Band) : Band :=
  if stored = .normal ∧ rateCondition e rate = true then .elevated else stored

/-- R79: a zone is tripped by a usable strip at or above its own threshold. -/
def zoneTripped (m : Memory) (chs : Vector ChannelRec 64) (zone : Nat) : Bool :=
  (zoneChannels m zone .spill).any fun i =>
    chs[i].usable && decide ((channelOf m i).trip ≤ chs[i].value)

/-- R80: the spill flag, with the state of the zone's SPILL source as the evaluation reads it. -/
def spillFlag (tripped : Bool) (source : SourceState) (flag : Bool) : Bool :=
  if tripped then true
  else
    match source with
    | .raised => flag
    | .returned => flag
    | .normal => false
    | .acked => false

/-- R81: the current a monitor contributes. -/
def channelCurrent (e : ChannelEntry) (r : ChannelRec) : Nat :=
  if r.usable then r.value else e.fallback

/-- R82: the sum of cells × I over the zone's CURRENT channels. -/
def zoneCurrentSum (m : Memory) (chs : Vector ChannelRec 64) (zone : Nat) : Nat :=
  ((zoneChannels m zone .current).map fun (i : Fin 64) =>
    (channelOf m i).cells * channelCurrent (channelOf m i) chs[i]).sum

/-- R82: the generation airflow. -/
def generationAirflow (kq sum : Nat) : Nat := min ((sum * kq + 9999) / 10000) 65535

/-- R83: the floor of a band. -/
def ZoneEntry.floor (e : ZoneEntry) : Band → Nat
  | .normal => e.qN
  | .elevated => e.qE
  | .alarm => e.qA
  | .danger => 65535

/-- R83: the required airflow. -/
def requiredAirflow (e : ZoneEntry) (effective : Band) (spill : Bool) (qGen : Nat) : Nat :=
  if effective = .danger then 65535
  else max (max qGen (e.floor effective)) (if spill then e.qS else 0)

/-- R69 to R83: the evaluation of one enabled zone, its stages in the order of the rules; shortfall is
left to the Allocator (R68). -/
def evaluateZone (m : Memory) (chs : Vector ChannelRec 64) (zone : Nat) (source : SourceState)
    (r : ZoneRec) : ZoneRec :=
  let e := zoneOf m zone
  let held := filterStep e.decay (newValue m chs zone r.held) r.held
  let ring := ringAppend r.ring held
  let rate := ringRate ring
  let stored := storedBand e held r.stored
  let effective := effectiveBand e rate stored
  let spill := spillFlag (zoneTripped m chs zone) source r.spill
  let qGen := generationAirflow e.kq (zoneCurrentSum m chs zone)
  { r with
    blind := decide ((gasSet m chs zone).length < e.minHeads)
    held, ring, rate, stored, effective, spill, qGen
    qReq := requiredAirflow e effective spill qGen }

/-- R86: a channel of the zone is FAILED. -/
def headFault (m : Memory) (chs : Vector ChannelRec 64) (zone : Nat) : Bool :=
  (List.finRange 64).any fun i =>
    (channelOf m i).kind != .none && (channelOf m i).zone == zone && chs[i].health == .failed

end Sys2Proof.Machine
end

