-- ==== Sys2Proof/Machine/Fans.lean ====
section
/-! DEFINITION. Fan health, allocation, commanded duty, PWM pairs and the charger interlock, as
functions of plain data (spec/05). -/

namespace Sys2Proof.Machine

/-! ### Fan health (R95 to R97) -/

/-- The three samples of a fan. -/
inductive FanSample where
  | good
  | bad
  | driveFault
  deriving DecidableEq, Repr

/-- R95: a good sample. -/
def FanRec.takeGood (e : FanEntry) (r : FanRec) : FanRec :=
  let good := min (r.goodCount + 1) 15
  { r with
    goodCount := good
    failCount := 0
    health :=
      match r.health with
      | .unknown => .running
      | .running => .running
      | .failed => if e.recoverCycles ≤ good then .running else .failed }

/-- R95: a bad sample. -/
def FanRec.takeBad (e : FanEntry) (r : FanRec) : FanRec :=
  match r.health with
  | .failed => { r with goodCount := 0, failCount := e.failCycles }
  | _ =>
    { r with
      goodCount := 0
      failCount := r.failCount + 1
      health := if r.failCount + 1 = e.failCycles then .failed else r.health }

/-- R95: a drive fault. -/
def FanRec.takeDriveFault (e : FanEntry) (r : FanRec) : FanRec :=
  { r with health := .failed, failCount := e.failCycles, goodCount := 0 }

/-- The record after a sample. -/
def FanRec.takeSample (e : FanEntry) (sample : FanSample) (r : FanRec) : FanRec :=
  match sample with
  | .good => r.takeGood e
  | .bad => r.takeBad e
  | .driveFault => r.takeDriveFault e

/-- R97: the sample a DRIVE STATUS is taken as. -/
def driveSample (r : FanRec) (st : DriveReply) : FanSample :=
  if st.faultCode ≠ 0 then .driveFault
  else if st.running = false ∧ 1 ≤ r.commanded then .bad else .good

/-- R97: a DRIVE STATUS taken by an enabled REMOTE fan. -/
def FanRec.takeDriveStatus (e : FanEntry) (st : DriveReply) (r : FanRec) : FanRec :=
  FanRec.takeSample e (driveSample r st) { r with lastStatus := some st }

/-- R96: the tach count taken by an enabled LOCAL fan at a close, judged with the commanded duty that
the record holds. -/
def FanRec.takeTach (e : FanEntry) (count : Nat) (r : FanRec) : FanRec :=
  let r1 := { r with lastTach := count }
  if r.commanded = 0 then r1
  else if count < e.tachMin then r1.takeBad e else r1.takeGood e

/-! ### Allocation (R100 to R103) -/

/-- R100: the available airflow of a zone. -/
def availableAirflow (m : Memory) (fans : Vector FanRec 16) (zone : Nat) : Nat :=
  (((List.finRange 16).filter fun (i : Fin 16) =>
    (fanOf m i).enable && (fanOf m i).zone == zone && fans[i].health == .running).map
      fun (i : Fin 16) => (fanOf m i).rated).sum

/-- R101: the allocated duty and the shortfall of an enabled zone. -/
def allocate (blind : Bool) (effective : Band) (qReq minDuty qAvail : Nat) : Nat × Bool :=
  if blind = true ∨ effective = .danger then (100, decide (qAvail = 0))
  else if qAvail = 0 then (100, true)
  else
    let d := (qReq * 100 + qAvail - 1) / qAvail
    if 100 < d then (100, true) else (max d minDuty, false)

/-- R101 for a zone of the tables. -/
def allocateZone (m : Memory) (fans : Vector FanRec 16) (zone : Nat) (z : ZoneRec) : Nat × Bool :=
  allocate z.blind z.effective z.qReq (zoneOf m zone).minDuty (availableAirflow m fans zone)

/-- R103: the commanded duty of an enabled fan; with no active bank full duty (R108). -/
def commandedDuty (device : DeviceState) (r : FanRec) : Nat :=
  match device with
  | .run => max r.allocated (r.manual.getD 0)
  | .purge => 100
  | .unconfigured => 100

/-- R103: the record with its commanded duty recomputed. -/
def FanRec.recommand (device : DeviceState) (r : FanRec) : FanRec :=
  { r with commanded := commandedDuty device r }

/-- R102: an enabled fan of the zone is FAILED. -/
def fanFail (m : Memory) (fans : Vector FanRec 16) (zone : Nat) : Bool :=
  (List.finRange 16).any fun i =>
    (fanOf m i).enable && (fanOf m i).zone == zone && fans[i].health == .failed

/-- R110: the cycles since sent and the drive-set pending flag of an enabled REMOTE fan at a close. -/
def FanRec.workFlag (e : FanEntry) (r : FanRec) : FanRec :=
  let since := min (r.sinceSent + 1) 16
  { r with
    sinceSent := since
    flag := r.flag || r.lastSent != some r.commanded || decide (e.refreshCycles ≤ since) }

/-- R111: the record at the opening of its FAN DRIVE transaction. -/
def FanRec.sent (r : FanRec) : FanRec :=
  { r with flag := false, lastSent := some r.commanded, sinceSent := 0 }

/-- R104: an absorbed DRIVE SET of a speed. -/
def FanRec.absorb (device : DeviceState) (speed : Nat) (r : FanRec) : FanRec :=
  { FanRec.recommand device { r with manual := if speed = 255 then none else some speed } with
    flag := true }

/-- R105: a present manual setpoint cleared at the expiry of supervisor silence. -/
def FanRec.dropManual (device : DeviceState) (r : FanRec) : FanRec :=
  if r.manual.isSome then { FanRec.recommand device { r with manual := none } with flag := true } else r

/-- The enabled REMOTE fan of a node, if any (R168). -/
def remoteFanOf (m : Memory) (node : Byte) : Option (Fin 16) :=
  (List.finRange 16).find? fun i => (fanOf m i).enabledRemote && (fanOf m i).node == node

/-- R93: the enabled LOCAL fan that names an output, if any. -/
def assignedFan (m : Memory) (k : Fin 4) : Option (Fin 16) :=
  (List.finRange 16).find? fun i => (fanOf m i).enabledLocal && (fanOf m i).output == k.val

/-! ### PWM pairs (R106, R107) -/

/-- R106: the pair of widths for a duty and a period. -/
def pwmPair (duty period : Nat) : PwmPair :=
  { high := (period * duty + 50) / 100, low := period - (period * duty + 50) / 100, period }

/-- R107: a write puts its pair into the next slot. -/
def PwmOutput.write (p : PwmPair) (o : PwmOutput) : PwmOutput := { o with next := some p }

/-- R107: the end of the running period. -/
def PwmOutput.periodEnd (o : PwmOutput) : PwmOutput :=
  match o.next with
  | some p => { running := p, next := none }
  | none => o

/-! ### Charger interlock (R112) -/

/-- R112: a zone record that holds boost charge off. -/
def ZoneRec.inhibits (r : ZoneRec) : Bool :=
  r.blind || r.spill || r.shortfall || r.effective == .alarm || r.effective == .danger

/-- R112: whether an evaluation of the interlock asserts CHARGER INHIBIT. -/
def interlockOf (device : DeviceState) (m : Memory) (zones : Vector ZoneRec 8) : Bool :=
  device != .run ||
    (List.finRange 8).any fun z => (zoneOf m z).enable && zones[z].inhibits

end Sys2Proof.Machine
end

