-- ==== Sys2Proof/Machine/Ops.lean ====
section
/-! DEFINITION. The named operations of the blocks over the state: replies and reports, channel and fan
events, silence, the interlock, cycle start, entry into PURGE, the swap, the line rates and the resets. -/

namespace Sys2Proof.Machine

/-- The outcome of a command that acts by `f`, unless the part is held in reset, where it receives
nothing and nothing acts (R126, R197). -/
def live (f : State → State) (s : State) : Host.Outcome State Fault Refusal :=
  .next (if s.held then s else f s)

/-! ### Reply and report queues (R160 to R162) -/

/-- R161: the free entries of the reply queue. -/
def NorthLink.freeReplies (n : NorthLink) : Nat := 4 - (n.reserved + n.built.length)

/-- R161: one entry reserved. -/
def reserveReply (s : State) : State :=
  { s with north := { s.north with reserved := s.north.reserved + 1 } }

/-- R162: a reserved entry becomes built; the RESPONSE joins the newest end. -/
def buildResponse (r : Response) (s : State) : State :=
  { s with north := { s.north with reserved := s.north.reserved - 1, built := s.north.built ++ [r] } }

/-- A plain RESPONSE built. -/
def respond (source echo : Byte) (result : ResultCode) (payload : List Byte) (s : State) : State :=
  buildResponse { source, echo, result, payload, mark := .plain } s

/-- R14: a RESPONSE to a request carries the own address and echoes the request code. -/
def respondOwn (code : Byte) (result : ResultCode) (payload : List Byte) (s : State) : State :=
  respond s.address code result payload s

/-- R160: a REPORT joins the queue, the oldest leaving when it holds 24. -/
def pushReport (q : List Report) (r : Report) : List Report := (q ++ [r]).drop ((q ++ [r]).length - 24)

/-- R160: a REPORT queued. -/
def queueReport (r : Report) (s : State) : State :=
  { s with north := { s.north with reports := pushReport s.north.reports r } }

/-! ### Channel events (R48, R57 to R60) -/

/-- A channel record replaced. -/
def setChannel (ch : Fin 64) (r : ChannelRec) (s : State) : State :=
  { s with store := { s.store with channels := s.store.channels.set ch r } }

/-- R48 stage 4: an event applied to the record `base`, and weighed for a REPORT. -/
def channelEvent (ch : Fin 64) (policy : ForwardPolicy) (deadband : Nat) (ev : ChannelEvent)
    (base : ChannelRec) (s : State) : State :=
  let e := channelOf s.tables ch
  let r := base.takeEvent e ev
  if reportDue policy deadband ev base r then
    queueReport { channel := ch, kind := e.kind, value := r.value, health := r.health, cycle := s.scan.cycle }
      (setChannel ch r.forwarded s)
  else setChannel ch r s

/-- R48, R42: a reading reaches a channel; a channel of kind NONE takes no action. -/
def takeReading (ch : Fin 64) (policy : ForwardPolicy) (deadband : Nat) (status : HeadStatus) (raw : Nat)
    (s : State) : State :=
  let e := channelOf s.tables ch
  if e.kind = .none then s
  else
    channelEvent ch policy deadband (judgeReading e status raw)
      { s.store.channels[ch] with lastRaw := raw } s

/-- R45, R51: a miss of a transaction reaches a channel. -/
def takeChannelMiss (ch : Fin 64) (policy : ForwardPolicy) (deadband : Nat) (s : State) : State :=
  if (channelOf s.tables ch).kind = .none then s
  else channelEvent ch policy deadband .miss s.store.channels[ch] s

/-- R43: an unclassified reply sets the mark and raises the condition if it is not holding. -/
def takeUnclassified (s : State) : State :=
  evalRelays (handCondition sourceUnclassified true
    { s with store := { s.store with unclassifiedMark := true } })

/-! ### Fan events (R97, R104) -/

/-- A fan record replaced. -/
def setFan (f : Fin 16) (r : FanRec) (s : State) : State :=
  { s with alloc := { s.alloc with fans := s.alloc.fans.set f r } }

/-- R97: a DRIVE STATUS reaches a fan; without effect unless the fan is an enabled REMOTE fan. -/
def takeDriveStatus (f : Fin 16) (st : DriveReply) (s : State) : State :=
  if (fanOf s.tables f).enabledRemote then
    setFan f (FanRec.takeDriveStatus (fanOf s.tables f) st s.alloc.fans[f]) s
  else s

/-- R97: a miss reaches a fan as a bad sample; without effect unless it is an enabled REMOTE fan. -/
def takeFanMiss (f : Fin 16) (s : State) : State :=
  if (fanOf s.tables f).enabledRemote then
    setFan f (FanRec.takeBad (fanOf s.tables f) s.alloc.fans[f]) s
  else s

/-! ### Interlock, PWM and tach -/

/-- R112: an evaluation of the interlock. -/
def evalInterlock (s : State) : State :=
  { s with alloc := { s.alloc with inhibit := interlockOf s.control.device s.tables s.zones } }

/-- R108: the pair an output's assignment and the device state give. -/
def outputPair (s : State) (k : Fin 4) : PwmPair :=
  match s.banks.activeBank with
  | none => pwmPair 100 1000
  | some m =>
    match assignedFan m k with
    | some f => pwmPair s.alloc.fans[f].commanded ((siteOf m).pwmPeriod k)
    | none => pwmPair 0 ((siteOf m).pwmPeriod k)

/-- R108: every output's pair written into its next slot. -/
def writeOutputs (s : State) : State :=
  { s with pwm := { s.pwm with outputs := mapFin (fun k o => o.write (outputPair s k)) s.pwm.outputs } }

/-- R109: every output's pair set at once, the period in progress cut off. -/
def setOutputs (s : State) : State :=
  { s with pwm := { s.pwm with
      outputs := mapFin (fun k _ => { running := outputPair s k, next := none }) s.pwm.outputs } }

/-- R98: the tach counts set to 0. -/
def clearTach (s : State) : State := { s with pwm := { s.pwm with tach := Vector.replicate 4 0 } }

/-! ### Supervisor silence (R163 to R166) -/

/-- R163: the timer started for a supervisor silence field. -/
def silenceStart (seconds : Nat) : SilenceTimer := if seconds = 0 then .stopped else .running seconds

/-- The silence timer set. -/
def setSilence (t : SilenceTimer) (s : State) : State := { s with north := { s.north with silence := t } }

/-- R163, R164: a restarting arrival. -/
def restartSilence (s : State) : State :=
  match s.control.device with
  | .unconfigured => s
  | _ =>
    let s1 := setSilence (silenceStart s.site.silence) s
    if s.north.supervisorLost then
      evalRelays (handCondition sourceSupervisorLost false
        { s1 with north := { s1.north with supervisorLost := false } })
    else s1

/-- R166: the timer at a swap that changes the field from `old` to `new`. -/
def silenceAtSwap (old new : Nat) (t : SilenceTimer) : SilenceTimer :=
  if old = new then t
  else
    match t with
    | .running n => if new = 0 then .stopped else .running n
    | .stopped => silenceStart new
    | .expired => .expired

/-! ### Scan cycle (R16 to R18, R28, R32) -/

/-- R17: an entry of the scan list that is due in a cycle. -/
def entryDue (m : Memory) (cycle i : Nat) : Bool :=
  decide (i < scanListLength m) && (scanOf m i).live && cycle % (scanOf m i).cadence == 0

/-- R32: the scan position moved forward to the first due entry from it on, or at end. -/
def dueFrom (m : Memory) (cycle : Nat) : Option Nat → Option Nat
  | none => none
  | some pos => (List.range 64).find? fun i => decide (pos ≤ i) && entryDue m cycle i

/-- The due entry the scan position stands at, after R32's move. -/
def State.dueEntry (s : State) : Option Nat := dueFrom s.tables s.scan.cycle s.scan.scanPos

/-- R54: the inputs whose channel's kind is not NONE, in index order. -/
def conversionList (m : Memory) : List (Fin 4) :=
  (List.finRange 4).filter fun i => (channelOf m (60 + i.val)).kind != .none

/-- R18, R54: a cycle start. -/
def cycleStart (s : State) : State :=
  { s with
    scan := { s.scan with
      cycle := (s.scan.cycle + 1) % 65536
      timer := .running s.site.scanPeriod
      cycleOpen := true
      scanPos := some 0 }
    converter := conversionList s.tables }

/-! ### Device state (R119, R133) -/

/-- R119: the device state set, with the parts that every change of it takes: READY, the interlock and
the UNCONFIGURED and PURGE conditions. The relays are evaluated at the event's end. -/
def setDevice (d : DeviceState) (s : State) : State :=
  handCondition sourcePurge (d == .purge)
    (handCondition sourceUnconfigured (d == .unconfigured)
      (evalInterlock { s with control := { s.control with device := d, ready := d == .run } }))

/-- The purge timer set. -/
def setPurgeTimer (t : Option Nat) (s : State) : State :=
  { s with control := { s.control with purgeTimer := t } }

/-- R119, R121, R163: an entry into PURGE. -/
def enterPurge (s : State) : State :=
  cycleStart (clearTach (setSilence (silenceStart s.site.silence)
    (setPurgeTimer (some s.site.purgeTime) (setDevice .purge s))))

/-- R123: the expiry of the purge timer. -/
def purgeExpiry (s : State) : State := evalRelays (setDevice .run (setPurgeTimer none s))

/-! ### Line rates (R2) -/

/-- R2: the end of a reception on the north link; a rate that waited for it applies. -/
def endNorthReception (l : Lines) : Lines :=
  match l.northPending with
  | .awaitingReception r =>
    { l with northRx := .hunt, northHold := false, northRate := r, northPending := .none }
  | _ => { l with northRx := .hunt, northHold := false }

/-- R2, R3: the end of a reception on a line, complete or abandoned. -/
def endReception (line : Line) (s : State) : State :=
  match line with
  | .south => { s with lines := { s.lines with southRx := .hunt } }
  | .north => { s with lines := endNorthReception s.lines }

/-- The receiver of a line. -/
def Lines.rx (l : Lines) : Line → RxState
  | .south => l.southRx
  | .north => l.northRx

/-- R3: a reception that has begun on an armed receiver (log 4). -/
def beginReception (receiving : Bool) : RxState → RxState
  | .armed => if receiving then .receiving else .armed
  | .hunt => .hunt
  | .receiving => .receiving

/-- R2: a new south rate at a swap waits for SOUTH_RATE_CHANGE, the first moment at which the slot is IDLE
and the line is idle, be it at once (log 8). An unchanged rate with no change pending has no effect. -/
def southRateAtSwap (new : BitRate) (l : Lines) : Lines :=
  if l.southPending = none ∧ new = l.southRate then l else { l with southPending := some new }

/-- R2: whether a swap changes the north rate or finds a change pending. -/
def northRateChanges (new : BitRate) (l : Lines) : Bool :=
  l.northPending != .none || new != l.northRate

/-- An earlier ACTIVATE's mark taken off: a later swap's RESPONSE ends the old rate (R2). -/
def ReplyMark.withoutRate : ReplyMark → ReplyMark
  | .endsOldRate => .plain
  | m => m

/-- R2: the north transmitter with the mark of an earlier ACTIVATE taken off. -/
def NorthTx.withoutRate : NorthTx → NorthTx
  | .sending t m => .sending t m.withoutRate
  | t => t

/-- R2: a new north rate at a swap waits for the RESPONSE of the ACTIVATE that caused the swap. -/
def northRateAtSwap (new : BitRate) (l : Lines) : Lines :=
  if northRateChanges new l then
    { l with northPending := .awaitingResponse new, northTx := l.northTx.withoutRate }
  else l

/-- The rates of a Site record; an activated bank names one of R1's rates (R184 check 1). -/
def Site.south (site : Site) : BitRate := site.southRate.getD .b19200
def Site.north (site : Site) : BitRate := site.northRate.getD .b19200

/-- R2, R186, R187: the rates and the ACTIVATE's DONE at a swap, the active bank already the new one. -/
def finishSwap (s : State) : State :=
  let marked := northRateChanges s.site.north s.lines
  let built := if marked then
      s.north.built.map fun r => { r with mark := r.mark.withoutRate }
    else s.north.built
  buildResponse
    { source := s.address, echo := codeActivate, result := .done, payload := []
      mark := if marked then .endsOldRate else .plain }
    { s with
      lines := northRateAtSwap s.site.north (southRateAtSwap s.site.south s.lines)
      north := { s.north with built }
      banks := { s.banks with state := .idle } }

/-! ### Swap (R186 to R188) -/

/-- R188: two banks differ in a record, any byte of it. -/
def recordDiffers (a b : Memory) (start len : Nat) : Bool :=
  (List.range len).any fun k => a.read (start + k) != b.read (start + k)

/-- R188: the records whose entries differ between two banks set to their reset value, the others kept
whole; record `i` of the table starts at `start i` and is `len` bytes long. -/
def reinitChanged {α : Type} {n : Nat} (old new : Memory) (start : Nat → Nat) (len : Nat) (initial : α)
    (v : Vector α n) : Vector α n :=
  mapFin (fun i r => if recordDiffers new old (start i) len then initial else r) v

/-- R62, R88, R115: the channel, zone and fan records at a swap from one bank to another. -/
def reinitialise (old new : Memory) (s : State) : State :=
  { s with
    store.channels := reinitChanged old new channelAt 16 ChannelRec.initial s.store.channels
    zones := reinitChanged old new zoneAt 22 ZoneRec.initial s.zones
    alloc.fans := reinitChanged old new fanAt 12 FanRec.initial s.alloc.fans }

/-- R63, R90, R116: every channel, zone and fan record set to its reset values. -/
def reinitialiseAll (s : State) : State :=
  { s with
    store := { s.store with channels := Vector.replicate 64 ChannelRec.initial }
    zones := Vector.replicate 8 ZoneRec.initial
    alloc := { s.alloc with fans := Vector.replicate 16 FanRec.initial } }

/-- The active selection moved to the standby bank (R186, R187). -/
def exchangeBanks (s : State) : State :=
  { s with banks := { s.banks with active := some s.banks.standbyId } }

/-- R187: the swap at a cycle close. -/
def swapAtClose (s : State) : State :=
  let old := s.site.silence
  let s1 := finishSwap (exchangeBanks (reinitialise s.tables s.banks.standbyBank s))
  evalRelays (writeOutputs (setSilence (silenceAtSwap old s1.site.silence s1.north.silence) s1))

/-- R186: a first activation out of UNCONFIGURED. The new policy is in force before the device
conditions change (R139). -/
def firstActivation (s : State) : State :=
  evalRelays (enterPurge (writeOutputs (finishSwap (exchangeBanks (reinitialiseAll s)))))

/-! ### Resets (R126, R127) -/

/-- R197: what is left of a hold when an input is released. -/
def Hold.released (h : Hold) : Release → Hold
  | .resetHigh _ => { h with resetLow := false }
  | .supplyInRange _ => { h with supplyLow := false }

/-- R196: the strap bits as they stand at a release. -/
def releaseStrap : Release → BitVec 3
  | .resetHigh strap => strap
  | .supplyInRange strap => strap

/-- R197: whether a cause counts. RESET_N counts once it has been low for 10 µs, and at any length while
the supply holds the part, which then stays held until RESET_N is high (log 31). -/
def Hold.counts (h : Hold) : HoldCause → Bool
  | .resetLow us => h.supplyLow || decide (10 ≤ us)
  | .supplyAt mv => decide (mv < 3000)

/-- R197: a hold that an input brings or joins. -/
def Hold.joined (h : Hold) : HoldCause → Hold
  | .resetLow _ => { h with resetLow := true }
  | .supplyAt _ => { h with supplyLow := true }

/-- R126: a cold reset, with the strap bits sampled (R196). -/
def coldReset (strap : BitVec 3) (s : State) : State :=
  { State.reset with address := 248#8 + strap.setWidth 8, pending := s.pending }

/-- R197: the part held at its cold-reset values, ALARM off (R126); the address stands until the strap
is sampled (R8). -/
def resetHold (h : Hold) (s : State) : State :=
  { State.reset with hold := h, address := s.address, alarm := AlarmUnit.initial, pending := s.pending }

/-- R126, R197: a release. The cold reset takes effect when it ends the hold; with the other input still
holding the part, or with no hold, no reset comes (log 14). -/
def releaseHold (release : Release) (s : State) : State :=
  if s.held then
    if (s.hold.released release).any then { s with hold := s.hold.released release }
    else coldReset (releaseStrap release) s
  else s

/-- R15: the lines after a warm reset, at the rates of the active bank. -/
def warmLines (b : BankManager) : Lines :=
  match b.activeBank with
  | none => Lines.initial
  | some m => { Lines.initial with southRate := (siteOf m).south, northRate := (siteOf m).north }

/-- R127: every block at its warm-reset values, both banks and the active selection kept, before the
device state is set. -/
def warmBlocks (s : State) : State :=
  { State.reset with
    address := s.address
    lines := warmLines s.banks
    pwm := { s.pwm with tach := Vector.replicate 4 0 }
    alarm := AlarmUnit.initial
    banks := { s.banks with state := .idle, restartPending := false, warmResetDue := false }
    pending := s.pending }

/-- R127, R153: a warm reset. -/
def warmReset (s : State) : State :=
  let s1 := setOutputs (warmBlocks s)
  match s.banks.active with
  | none => evalRelays (setDevice .unconfigured s1)
  | some _ => evalRelays (enterPurge s1)

end Sys2Proof.Machine
end

