-- ==== Sys2Proof/Machine/Activation.lean ====
section
/-! DEFINITION. The end of the activation check: the CRC, the numbered checks and what follows (R183 to
R187). -/

namespace Sys2Proof.Machine

/-- Whether a number lies in a closed range. -/
def inRange (lo n hi : Nat) : Bool := decide (lo ≤ n ∧ n ≤ hi)

/-- R184 check 1: every Site record field in range. -/
def check1 (m : Memory) : Bool :=
  let s := siteOf m
  s.southRate.isSome && s.northRate.isSome &&
    inRange 250 s.scanPeriod 10000 && s.scanPeriod % 10 == 0 &&
    inRange 2 s.pollTimeout 100 && inRange 5 s.relayTimeout 500 && inRange 1 s.interleave 16 &&
    inRange 0 s.purgeTime 3600 &&
    inRange 0 s.rankAlert 7 && inRange 0 s.rankResponse 7 && inRange 0 s.rankReport 7 &&
    (s.levelOrder.all fun l => inRange 0 l 3) &&
    (inRange 0 s.immediate 3 || s.immediate == 255) &&
    (s.pwmPeriods.all fun p => inRange 40 p 65535)

/-- R184 check 2: no two places of the level order hold the same level. -/
def check2 (m : Memory) : Bool := decide (siteOf m).levelOrder.Nodup

/-- The highest index a window maps to (R184 check 3). -/
def WindowEntry.highest (w : WindowEntry) : Nat := w.targetBase + (255#8 &&& ~~~w.mask).toNat

/-- R184 check 3: every enabled window maps inside its target table. -/
def check3 (m : Memory) : Bool :=
  ((List.range 16).map (windowOf m)).all fun w =>
    !w.enable ||
      (match w.target with
       | .channel => decide (w.highest ≤ 59)
       | .fan => decide (w.highest ≤ 15))

/-- R184 check 4 for one channel entry. -/
def channelPasses (m : Memory) (e : ChannelEntry) : Bool :=
  e.kind == .none ||
    (e.gain != 0 && decide (e.rawLow < e.rawHigh) && inRange 1 e.missLimit 15 &&
      (zoneOf m e.zone).enable &&
      (match e.kind with
       | .spill => inRange 1 e.trip 1000
       | .current => inRange 1 e.cells 400 && decide (e.fallback ≤ 10000)
       | .gas => true
       | .none => true))

/-- R184 check 4: every enabled channel. -/
def check4 (m : Memory) : Bool := ((List.range 64).map (channelOf m)).all (channelPasses m)

/-- R184 check 5 for one zone entry. -/
def zonePasses (e : ZoneEntry) : Bool :=
  !e.enable ||
    (inRange 1 e.minHeads 8 && inRange 0 e.decay 4 &&
      inRange 1 e.tE 1000 && inRange 1 e.tA 1000 && inRange 1 e.tD 1000 &&
      decide (e.tE < e.tA) && decide (e.tA < e.tD) &&
      decide (e.hysteresis ≤ 100) && decide (e.hysteresis < e.tE) && inRange 0 e.rateLimit 1000 &&
      decide (e.qN ≤ e.qE) && decide (e.qE ≤ e.qA) && inRange 0 e.minDuty 100)

/-- R184 check 5: every enabled zone. -/
def check5 (m : Memory) : Bool := ((List.range 8).map (zoneOf m)).all zonePasses

/-- R184 check 6: every enabled zone has as many enabled GAS channels as its minimum heads. -/
def check6 (m : Memory) : Bool :=
  (List.range 8).all fun z =>
    !(zoneOf m z).enable || decide ((zoneOf m z).minHeads ≤ (zoneChannels m z .gas).length)

/-- R184 check 7: every enabled zone has an enabled fan. -/
def check7 (m : Memory) : Bool :=
  (List.range 8).all fun z =>
    !(zoneOf m z).enable ||
      (List.range 16).any fun f => (fanOf m f).enable && (fanOf m f).zone == z

/-- R184 check 8 for one fan entry; a zone byte of 8..255 names no zone (R195). -/
def fanPasses (m : Memory) (e : FanEntry) : Bool :=
  !e.enable ||
    (decide (e.zone < 8) && (zoneOf m e.zone).enable &&
      (if e.remote then isNode e.node && inRange 1 e.refreshCycles 16 else decide (e.output ≤ 3)) &&
      decide (1 ≤ e.rated) && inRange 1 e.failCycles 15 && inRange 1 e.recoverCycles 15)

/-- R184 check 8: every enabled fan. -/
def check8 (m : Memory) : Bool := ((List.range 16).map (fanOf m)).all (fanPasses m)

/-- R184 check 9: distinct outputs of enabled LOCAL fans, distinct nodes of enabled REMOTE fans. -/
def check9 (m : Memory) : Bool :=
  let fans := (List.range 16).map (fanOf m)
  decide ((fans.filter FanEntry.enabledLocal).map (·.output)).Nodup &&
    decide ((fans.filter FanEntry.enabledRemote).map (·.node)).Nodup

/-- R184 check 10: the scan list holds a live entry. -/
def check10 (m : Memory) : Bool :=
  (List.range (scanListLength m)).any fun i => (scanOf m i).live

/-- R184: the checks in the order of their numbers. -/
def numberedChecks (m : Memory) : List (Nat × Bool) :=
  [(1, check1 m), (2, check2 m), (3, check3 m), (4, check4 m), (5, check5 m), (6, check6 m),
    (7, check7 m), (8, check8 m), (9, check9 m), (10, check10 m)]

/-- R184: the number of the first check that fails. -/
def firstFailedCheck (m : Memory) : Option Nat :=
  ((numberedChecks m).find? fun c => !c.2).map Prod.fst

/-- R185: an activation that ends with a failed check. -/
def failActivation (result : ResultCode) (payload : List Byte) (s : State) : State :=
  respondOwn codeActivate result payload { s with banks := { s.banks with state := .idle } }

/-- R183 to R187: the end of the check of an image against its expected CRC. -/
def checkEnd (expected : Crc) (s : State) : State :=
  if crc16 (bankImage s.banks.standbyBank) ≠ expected then failActivation .crcMismatch [] s
  else
    match firstFailedCheck s.banks.standbyBank with
    | some n => failActivation .checkFailed (u8 n) s
    | none =>
      match s.control.device with
      | .unconfigured => firstActivation s
      | _ => { s with banks := { s.banks with state := .swapPending } }

/-- R185: the check ends; without a check in progress nothing ends. -/
def checkEndStep (s : State) : State :=
  match s.banks.state with
  | .checking expected => checkEnd expected s
  | _ => s

/-- R185. -/
def execActivationCheckEnd (s : State) : Host.Outcome State Fault Refusal := live checkEndStep s

end Sys2Proof.Machine
end

