-- ==== Sys2Proof/Machine/Cycle.lean ====
section
/-! DEFINITION. The scan cycle's events: timer expiry, close, local conversion, purge expiry (R18, R20,
R55, R123). -/

namespace Sys2Proof.Machine

/-! ### Timer expiry (R18, R21) -/

/-- R21: the expiry of a timer whose cycle has not closed sets the overrun condition. -/
def setOverrun (s : State) : State :=
  evalRelays (handCondition sourceOverrun true
    { s with scan := { s.scan with timer := .expired, overrun := true } })

/-- R18, R21: the expiry of the cycle timer. -/
def timerExpiry (s : State) : State :=
  match s.scan.timer with
  | .running _ => if s.scan.cycleOpen then setOverrun s else cycleStart s
  | _ => s

/-- R18. -/
def execCycleTimerExpiry (s : State) : Host.Outcome State Fault Refusal := live timerExpiry s

/-! ### Local conversions (R55) -/

/-- R55: a conversion completes: an OK reading for its channel, and the converter moves on. -/
def conversionStep (sample : BitVec 12) (s : State) : State :=
  match s.converter with
  | [] => s
  | i :: rest =>
    takeReading ⟨60 + i.val, by omega⟩ .none 0 .ok sample.toNat { s with converter := rest }

/-- R55. -/
def execLocalConversionComplete (sample : BitVec 12) (s : State) :
    Host.Outcome State Fault Refusal :=
  live (conversionStep sample) s

/-! ### Purge timer (R121, R123) -/

/-- R123: the expiry of a purge timer of 1 s or more; one of 0 s is taken at a close (R121). -/
def purgeTimerStep (s : State) : State :=
  match s.control.device, s.control.purgeTimer with
  | .purge, some (_ + 1) => purgeExpiry s
  | _, _ => s

/-- R123. -/
def execPurgeTimerExpiry (s : State) : Host.Outcome State Fault Refusal := live purgeTimerStep s

/-! ### Cycle close (R20) -/

/-- R20: the close is due: a started cycle, the scan position at end, the slot IDLE, the conversions
complete. -/
def closeDue (s : State) : Bool :=
  s.control.device != .unconfigured && s.scan.cycleOpen && s.dueEntry.isNone &&
    s.scan.slot.isNone && s.converter.isEmpty

/-- R21: a late close, taken after its cycle's timer has expired. -/
def closeIsLate (s : State) : Bool :=
  match s.scan.timer with
  | .running _ => false
  | _ => true

/-- R20, R21: the Scan Engine's part: the cycle closed, the position at end, the overrun condition
cleared when the timer still runs. -/
def closeScan (s : State) : State :=
  let s1 := { s with scan := { s.scan with
    cycleOpen := false, scanPos := none, overrun := s.scan.overrun && closeIsLate s } }
  if closeIsLate s then s1 else handCondition sourceOverrun false s1

/-- R69: every enabled zone evaluated. -/
def evaluateZones (s : State) : State :=
  { s with
    zones := mapFin
      (fun z r =>
        if (zoneOf s.tables z).enable then
          evaluateZone s.tables s.store.channels z s.alarm.sources[spillSource z].state r
        else r) s.zones }

/-- The count of the tach input of a fan's output. -/
def tachOf (tach : Vector Nat 4) (output : Nat) : Nat := if h : output < 4 then tach[output] else 0

/-- R98, R99 stage 1: the tach counts handed over and set to 0, every enabled LOCAL fan sampled. -/
def sampleLocalFans (s : State) : State :=
  clearTach { s with
    alloc.fans := mapFin
      (fun i r =>
        if (fanOf s.tables i).enabledLocal then
          FanRec.takeTach (fanOf s.tables i) (tachOf s.pwm.tach (fanOf s.tables i).output) r
        else r) s.alloc.fans }

/-- R99 stage 2: the allocation of the zone of a number, when it is an enabled zone. -/
def zoneAllocation (s : State) (zone : Nat) : Option (Nat × Bool) :=
  if h : zone < 8 then
    if (zoneOf s.tables zone).enable then some (allocateZone s.tables s.alloc.fans zone s.zones[zone])
    else none
  else none

/-- R99 stage 2: shortfall into every enabled zone's record, the allocated duty into the record of every
enabled fan of the zone. -/
def allocateZones (s : State) : State :=
  { s with
    zones := mapFin
      (fun z r => match zoneAllocation s z with
        | some (_, short) => { r with shortfall := short }
        | none => r) s.zones
    alloc.fans := mapFin
      (fun i r =>
        if (fanOf s.tables i).enable then
          match zoneAllocation s (fanOf s.tables i).zone with
          | some (duty, _) => { r with allocated := duty }
          | none => r
        else r) s.alloc.fans }

/-- R99 stage 3: the commanded duty of every enabled fan set, the PWM pairs written (R108). -/
def commandFans (s : State) : State :=
  writeOutputs { s with
    alloc.fans := mapFin
      (fun i r => if (fanOf s.tables i).enable then r.recommand s.control.device else r) s.alloc.fans }

/-- R99 stage 4: the drive-set pending flags of the enabled REMOTE fans. -/
def workFlags (s : State) : State :=
  { s with
    alloc.fans := mapFin
      (fun i r => if (fanOf s.tables i).enabledRemote then r.workFlag (fanOf s.tables i) else r)
      s.alloc.fans }

/-- R85, R102: the condition of a zone and a zone kind at a close; all false for a disabled zone. -/
def zoneCondition (s : State) (z : Fin 8) (k : Nat) : Bool :=
  let e := zoneOf s.tables z
  let r := s.zones[z]
  e.enable &&
    (match k with
     | 0 => decide (1 ≤ bandCode r.stored)
     | 1 => decide (2 ≤ bandCode r.stored)
     | 2 => r.stored == .danger
     | 3 => rateCondition e r.rate
     | 4 => r.blind
     | 5 => zoneTripped s.tables s.store.channels z
     | 6 => r.shortfall
     | 7 => fanFail s.tables s.alloc.fans z
     | _ => headFault s.tables s.store.channels z)

/-- The condition of a zone source by its index (R130). -/
def sourceCondition (s : State) (i : Fin 77) : Bool :=
  if h : i.val < 72 then zoneCondition s ⟨i.val / 9, by omega⟩ (i.val % 9) else false

/-- R132: the Alarm Unit takes the nine conditions of every zone. -/
def takeZoneConditions (s : State) : State := handZoneConditions (sourceCondition s) s

/-- R44: the unclassified mark read and cleared; the condition is handed as not holding when it was clear. -/
def settleUnclassified (s : State) : State :=
  let s1 := { s with store := { s.store with unclassifiedMark := false } }
  if s.store.unclassifiedMark then s1 else handCondition sourceUnclassified false s1

/-- R99: the Allocator's part of a close, stages 1 to 5. -/
def allocatorWork (s : State) : State :=
  evalInterlock (workFlags (commandFans (allocateZones (sampleLocalFans s))))

/-- R20, R99, R132: the work of the Scan Engine, the Zone Evaluator, the Allocator, the Alarm Unit and
the Channel Store at a close, made from the bank active through the cycle. -/
def closeWork (s : State) : State :=
  evalRelays (settleUnclassified (takeZoneConditions (allocatorWork (evaluateZones (closeScan s)))))

/-- R187: the Bank Manager's part of a close. -/
def closeSwap (s : State) : State :=
  match s.banks.state with
  | .swapPending => swapAtClose s
  | _ => s

/-- R121: a purge of 0 s expires at the first close, after the swap. -/
def closePurge (s : State) : State :=
  match s.control.device, s.control.purgeTimer with
  | .purge, some 0 => purgeExpiry s
  | _, _ => s

/-- R20, R21: the close, and after a late one the cycle start that follows at once. -/
def closeCycle (s : State) : State :=
  let s1 := closePurge (closeSwap (closeWork s))
  if closeIsLate s then cycleStart s1 else s1

/-- R20: the cycle close. -/
def execCycleClose (s : State) : Host.Outcome State Fault Refusal :=
  live (fun s => if closeDue s then closeCycle s else s) s

end Sys2Proof.Machine
end

