-- ==== Sys2Proof/Machine/Requests.lean ====
section
/-! DEFINITION. The nine management requests and the runtime readers (spec/09, R149). Each serves the
request fields that follow the code, its reply entry already reserved, and builds its RESPONSE. -/

namespace Sys2Proof.Machine

/-- R178: the table id, first index and count name records of a table; its first byte and record length. -/
def tableSpan (id first count : Nat) : Option (Nat × Nat) :=
  match tableLayout id with
  | none => none
  | some (start, len, size) =>
    if count = 0 ∨ size < first + count then none else some (start + len * first, len)

/-- The standby bank's bytes replaced. -/
def writeStandby (at_ : Nat) (bytes : List Byte) (b : BankManager) : BankManager :=
  match b.standbyId with
  | .a => { b with bankA := b.bankA.writeBytes at_ bytes }
  | .b => { b with bankB := b.bankB.writeBytes at_ bytes }

/-- R177, R178: TABLE WRITE. -/
def serveTableWrite (fields : List Byte) (s : State) : State :=
  match fields with
  | id :: first :: count :: records =>
    (match tableSpan id.toNat first.toNat count.toNat with
     | none => respondOwn codeTableWrite .badRequest [] s
     | some (start, len) =>
       if records.length ≠ count.toNat * len then respondOwn codeTableWrite .badRequest [] s
       else if s.banks.state ≠ .idle then respondOwn codeTableWrite .busy [] s
       else respondOwn codeTableWrite .done [] { s with banks := writeStandby start records s.banks })
  | _ => respondOwn codeTableWrite .badRequest [] s

/-- R179: the bank a role byte names, with its identity. -/
def roleBank (role : Byte) (b : BankManager) : Option (BankId × Memory) :=
  if role = 0#8 then b.active.map fun i => (i, b.bank i)
  else if role = 1#8 then some (b.standbyId, b.standbyBank)
  else none

/-- R179: TABLE READ. -/
def serveTableRead (fields : List Byte) (s : State) : State :=
  match fields with
  | [role, id, first, count] =>
    (match tableSpan id.toNat first.toNat count.toNat, roleBank role s.banks with
     | some (start, len), some (bank, m) =>
       if 46 < 3 + count.toNat * len then respondOwn codeTableRead .badRequest [] s
       else
         respondOwn codeTableRead .done
           (u8 (bankCode (some bank)) ++ [id, first] ++ m.readBytes start (count.toNat * len)) s
     | _, _ => respondOwn codeTableRead .badRequest [] s)
  | _ => respondOwn codeTableRead .badRequest [] s

/-- R182: ACTIVATE. Taken, it keeps its reserved entry with no RESPONSE built. -/
def serveActivate (fields : List Byte) (s : State) : State :=
  match fields with
  | [hi, lo] =>
    if s.banks.state ≠ .idle ∨ s.banks.restartPending = true then respondOwn codeActivate .busy [] s
    else { s with banks := { s.banks with state := .checking (hi ++ lo) } }
  | _ => respondOwn codeActivate .badRequest [] s

/-- R149: the sources an acknowledgement selects, when its selector and value are in range. -/
def ackSelection (p : Policy) (selector value : Byte) : Option (Fin 77 → Bool) :=
  if selector = 0#8 then
    (if value.toNat ≤ 76 then some fun i => i.val == value.toNat else none)
  else if selector = 1#8 then
    (if value.toNat ≤ 3 then some fun i => p.level i == value.toNat else none)
  else none

/-- R149: ACKNOWLEDGE. -/
def serveAcknowledge (fields : List Byte) (s : State) : State :=
  match fields with
  | [selector, value] =>
    (match ackSelection s.policy selector value with
     | some sel =>
       respondOwn codeAcknowledge .done (u8 (countAckChanges sel s))
         (evalRelays (acknowledgeSources sel s))
     | none => respondOwn codeAcknowledge .badRequest [] s)
  | _ => respondOwn codeAcknowledge .badRequest [] s

/-- R181: the 25-byte status record (11). -/
def statusRecord (s : State) : List Byte :=
  u8 (deviceCode s.control.device) ++ u8 (bankCode s.banks.active) ++ u8 (managerCode s.banks.state) ++
    u16 s.scan.cycle ++ (s.zones.toList.flatMap fun r => u8 (zoneStatusByte r)) ++
    [boolByte s.alloc.inhibit] ++ u8 (24 - s.north.reports.length) ++ u8 s.north.freeReplies ++
    u8 (4 - s.relayQueue.length) ++
    levelSummary 0 s ++ levelSummary 1 s ++ levelSummary 2 s ++ levelSummary 3 s

/-- R181: STATUS. -/
def serveStatus (fields : List Byte) (s : State) : State :=
  match fields with
  | [] => respondOwn codeStatus .done (statusRecord s) s
  | _ => respondOwn codeStatus .badRequest [] s

/-- R180: READ CHANNELS. -/
def serveReadChannels (fields : List Byte) (s : State) : State :=
  match fields with
  | [first, count] =>
    if count = 0#8 ∨ 64 < first.toNat + count.toNat ∨ 46 < 2 + 10 * count.toNat then
      respondOwn codeReadChannels .badRequest [] s
    else
      respondOwn codeReadChannels .done
        ([first, count] ++
          ((s.store.channels.toList.drop first.toNat).take count.toNat).flatMap channelBytes) s
  | _ => respondOwn codeReadChannels .badRequest [] s

/-- R180, R91: READ ZONE. -/
def serveReadZone (fields : List Byte) (s : State) : State :=
  match fields with
  | [zone] =>
    if h : zone.toNat < 8 then
      respondOwn codeReadZone .done (zoneBytes zone.toNat s.zones[zone.toNat]) s
    else respondOwn codeReadZone .badRequest [] s
  | _ => respondOwn codeReadZone .badRequest [] s

/-- R180: READ FAN. -/
def serveReadFan (fields : List Byte) (s : State) : State :=
  match fields with
  | [first, count] =>
    if count = 0#8 ∨ 16 < first.toNat + count.toNat ∨ 46 < 2 + 13 * count.toNat then
      respondOwn codeReadFan .badRequest [] s
    else
      respondOwn codeReadFan .done
        ([first, count] ++
          ((s.alloc.fans.toList.drop first.toNat).take count.toNat).flatMap fanBytes) s
  | _ => respondOwn codeReadFan .badRequest [] s

/-- R189 steps 1 and 2: an activation in progress ended with ABORTED. -/
def abortActivation (s : State) : State :=
  match s.banks.state with
  | .idle => s
  | _ => respondOwn codeActivate .aborted [] { s with banks := { s.banks with state := .idle } }

/-- R189, R191: RESTART. The DONE of the RESTART that sets the mark is the one whose transmission
brings the warm reset. -/
def serveRestart (fields : List Byte) (s : State) : State :=
  match fields with
  | [] =>
    let s1 := abortActivation s
    buildResponse
      { source := s.address, echo := codeRestart, result := .done, payload := []
        mark := if s.banks.restartPending then .plain else .restartDone }
      { s1 with banks := { s1.banks with restartPending := true } }
  | _ => respondOwn codeRestart .badRequest [] s

/-- R177: a REQUEST whose code names none of the nine. -/
def serveUnknown (code : Byte) (s : State) : State := respondOwn code .badRequest [] s

/-- R177: the request of a REQUEST's payload served by its code. -/
def serveRequest (payload : List Byte) (s : State) : State :=
  match payload with
  | [] => s
  | code :: fields =>
    if code = codeTableWrite then serveTableWrite fields s
    else if code = codeTableRead then serveTableRead fields s
    else if code = codeActivate then serveActivate fields s
    else if code = codeAcknowledge then serveAcknowledge fields s
    else if code = codeStatus then serveStatus fields s
    else if code = codeReadChannels then serveReadChannels fields s
    else if code = codeReadZone then serveReadZone fields s
    else if code = codeReadFan then serveReadFan fields s
    else if code = codeRestart then serveRestart fields s
    else serveUnknown code s

end Sys2Proof.Machine
end

