-- ==== Sys2Proof/Machine/Screen.lean ====
section
/-! DEFINITION. The Relay Screen (R167 to R172): fan absorption, the screening steps, the relay queue. -/

namespace Sys2Proof.Machine

/-- R167: the lowest-numbered enabled screen window that matches a node. -/
def screenWindow (m : Memory) (node : Byte) : Option ScreenEntry :=
  ((List.range 8).map (screenOf m)).find? fun w =>
    w.enable && (node &&& w.mask) == (w.base &&& w.mask)

/-- What the screening of R169 decides for a candidate. -/
inductive ScreenVerdict where
  | refuse (result : ResultCode)
  | pass (mode : RelayMode)
  deriving DecidableEq, Repr

/-- R169: the four steps, the first that refuses giving the result. -/
def screenVerdict (s : State) (node : Byte) (kind : RelayKind) : ScreenVerdict :=
  if s.control.device = .unconfigured then .refuse .noRoute
  else
    match screenWindow s.tables node with
    | none => .refuse .noRoute
    | some w =>
      if !w.permits kind then .refuse .notPermitted
      else if w.gated && s.alloc.inhibit then .refuse .notPermitted
      else if 4 ≤ s.relayQueue.length then .refuse .busy
      else .pass w.mode

/-- R170: an entry joins the relay queue. -/
def joinRelay (e : RelayEntry) (s : State) : State := { s with relayQueue := s.relayQueue ++ [e] }

/-- R169 to R172: a candidate that is not absorbed is refused, or queued: answered ACCEPTED when posted,
keeping its reservation when confirmed. -/
def screenCandidate (node : Byte) (kind : RelayKind) (payload : List Byte) (s : State) : State :=
  match screenVerdict s node kind with
  | .refuse result => respond node (kindCode (relayTelegramKind kind)) result [] s
  | .pass .posted =>
    respond node (kindCode (relayTelegramKind kind)) .accepted []
      (joinRelay { node, kind, payload, mode := .posted } s)
  | .pass .confirmed => joinRelay { node, kind, payload, mode := .confirmed } s

/-- R168: the result of an absorption, compared with the allocated duty as the record holds it. -/
def absorbResult (speed allocated : Nat) : ResultCode :=
  if speed = 255 then .done else if allocated ≤ speed then .done else .clamped

/-- R104, R168: a DRIVE SET absorbed as a manual setpoint. -/
def absorbDriveSet (f : Fin 16) (node speed : Byte) (s : State) : State :=
  respond node (kindCode .driveSet) (absorbResult speed.toNat s.alloc.fans[f].allocated) []
    (setFan f (FanRec.absorb s.control.device speed.toNat s.alloc.fans[f]) s)

/-- R13, R168: a DRIVE SET to a field node: judged, absorbed, or screened. Speed 255 is never relayed. -/
def takeDriveSet (node speed : Byte) (s : State) : State :=
  if 100 < speed.toNat ∧ speed.toNat < 255 then respond node (kindCode .driveSet) .badRequest [] s
  else
    match remoteFanOf s.tables node with
    | some f => absorbDriveSet f node speed s
    | none =>
      if speed.toNat = 255 then respond node (kindCode .driveSet) .badRequest [] s
      else screenCandidate node .driveSet [speed] s

end Sys2Proof.Machine
end

