-- ==== Sys2Proof/Machine/Arrivals.lean ====
section
/-! DEFINITION. What the arrival of a telegram does, on the north link (R12, R13) and on the south loop
(R10, R11, R25). -/

namespace Sys2Proof.Machine

/-! ### North link -/

/-- R13: management traffic. -/
def dispatchOwn (t : Telegram) (s : State) : State :=
  match t.kind with
  | .request => serveRequest t.payload s
  | k => respond s.address (kindCode k) .badRequest [] s

/-- R13: a relay candidate; a REQUEST to a field node is answered BAD_REQUEST. -/
def dispatchNode (t : Telegram) (s : State) : State :=
  match t.kind with
  | .driveSet => takeDriveSet t.dest (t.payload.headD 0#8) s
  | .command => screenCandidate t.dest .command t.payload s
  | k => respond t.dest (kindCode k) .badRequest [] s

/-- R12: whether dispatch takes a telegram as supervisor traffic. -/
def isSupervisorTraffic (address : Byte) (t : Telegram) : Bool :=
  t.source == 0#8 && (t.dest == address || isNode t.dest)

/-- R12, R161: the three effects of an arrived north telegram. -/
def arriveNorth (t : Telegram) (s : State) : State :=
  if isSupervisorTraffic s.address t then
    let s1 := restartSilence s
    if s1.north.freeReplies = 0 then s1
    else if t.dest = s.address then dispatchOwn t (reserveReply s1)
    else dispatchNode t (reserveReply s1)
  else s

/-- R3, R6, R9: a north telegram whose characters have come in with a good CRC. In HUNT they are
discarded; otherwise the reception ends, and a telegram that passes R9 arrives. -/
def receiveNorth (t : Telegram) (s : State) : State :=
  match s.lines.northRx with
  | .hunt => s
  | _ =>
    if passesR9 .north t then arriveNorth t (endReception .north s)
    else endReception .north s

/-- A REQUEST from the supervisor to the part's own address. -/
def ownRequest (s : State) (code : Byte) (fields : List Byte) : Telegram :=
  { dest := s.address, source := 0#8, kind := .request, payload := code :: fields }

/-- A REQUEST to the own address, received. -/
def receiveRequest (code : Byte) (fields : List Byte) (s : State) : State :=
  receiveNorth (ownRequest s code fields) s

/-! ### South loop -/

/-- R24: the reply kind a transaction expects. -/
def Purpose.expects : Purpose → TelegramKind
  | .scanPoll => .reading
  | .scanQuery => .driveStatus
  | .fanDrive => .driveStatus
  | .relayPosted => .answer
  | .relayConfirmed _ => .answer

/-- R10: whether a telegram answers the open transaction. -/
def answersOpen (slot : Option Transaction) (t : Telegram) : Bool :=
  match slot with
  | none => false
  | some tr => t.dest == 0#8 && t.source == tr.node && t.kind == tr.purpose.expects

/-- R23: the slot back to IDLE. -/
def closeSlot (s : State) : State := { s with scan := { s.scan with slot := none } }

/-- R25: a READING handed to the Window Classifier. -/
def takeReadingFrom (node status : Byte) (raw : Nat) (s : State) : State :=
  match classifyChannel s.tables node with
  | some (w, ch) => takeReading ch w.policy w.deadband (headStatusOf status) (clampRaw raw) s
  | none => takeUnclassified s

/-- R9: a DRIVE STATUS with its fields as handed on. -/
def driveReplyOf (running feedback faultCode : Byte) : DriveReply :=
  { running := running != 0#8, feedback := min feedback.toNat 100, faultCode := faultCode.toNat }

/-- R25: a DRIVE STATUS handed to the Window Classifier. -/
def takeDriveStatusFrom (node : Byte) (st : DriveReply) (s : State) : State :=
  match classifyFan s.tables node with
  | some f => takeDriveStatus f st s
  | none => takeUnclassified s

/-- R172: the end of a confirmed relay; its RESPONSE echoes the relayed kind and has the node as source. -/
def respondRelay (node : Byte) (kind : RelayKind) (result : ResultCode) (payload : List Byte)
    (s : State) : State :=
  respond node (kindCode (relayTelegramKind kind)) result payload s

/-- R25: an ANSWER handed to the Relay Screen: discarded for a posted relay, DONE with at most 46
characters of its payload for a confirmed one (R172). -/
def takeAnswer (tr : Transaction) (payload : List Byte) (s : State) : State :=
  match tr.purpose with
  | .relayConfirmed kind => respondRelay tr.node kind .done (payload.take 46) s
  | _ => s

/-- R6, R9, R10: a south telegram whose characters have come in with a good CRC. In HUNT they are
discarded; otherwise the reception ends, and a telegram that passes R9 and answers the open transaction
ends it and is handed on by `take`. -/
def receiveSouth (t : Telegram) (take : Transaction → State → State) (s : State) : State :=
  match s.lines.southRx, s.scan.slot with
  | .hunt, _ => s
  | _, none => endReception .south s
  | _, some tr =>
    if passesR9 .south t && answersOpen s.scan.slot t then
      take tr (closeSlot (endReception .south s))
    else endReception .south s

/-! ### Discarded telegrams -/

/-- R6, R9, R10, R12: the characters of a complete telegram are discarded whole. -/
def isDiscarded (line : Line) (chars : List Byte) (s : State) : Bool :=
  frameComplete chars &&
    (!frameCrcOk chars ||
      (match frameTelegram chars with
       | none => true
       | some t =>
         !passesR9 line t ||
           (match line with
            | .south => !answersOpen s.scan.slot t
            | .north => !isSupervisorTraffic s.address t)))

end Sys2Proof.Machine
end

