-- ==== Sys2Proof/Machine/LineEvents.lean ====
section
/-! DEFINITION. Line idle, abandoned and discarded telegrams (R3, R4, R6, R7). -/

namespace Sys2Proof.Machine

/-- R3: what two character times of idle do to a receiver: HUNT becomes ARMED, and a telegram that has
begun to come in is abandoned. -/
def receiverIdle (line : Line) (receiving : Bool) (arm : State → State) (s : State) : State :=
  match beginReception receiving (s.lines.rx line) with
  | .hunt => arm s
  | .armed => s
  | .receiving => endReception line s

/-- R3, R7: the south line has been idle for two character times; while the part transmits, the receiver
is held in HUNT. -/
def southIdle (receiving : Bool) (s : State) : State :=
  if s.lines.southTx.isSome then s
  else receiverIdle .south receiving (fun s => { s with lines := { s.lines with southRx := .armed } }) s

/-- R3: the north receive direction has been idle for two character times. -/
def northReceiveIdle (receiving : Bool) (s : State) : State :=
  receiverIdle .north receiving (fun s => { s with lines := { s.lines with northRx := .armed } }) s

/-- R7, R156: the north transmit direction has been idle for two character times. -/
def northTransmitIdle (s : State) : State :=
  match s.lines.northTx with
  | .settling => { s with lines := { s.lines with northTx := .ready } }
  | _ => s

/-- R3, R7: a line or direction has been idle. -/
def idleStep : IdleLine → State → State
  | .south receiving => southIdle receiving
  | .northReceive receiving => northReceiveIdle receiving
  | .northTransmit => northTransmitIdle

/-- R3. -/
def execLineIdle (line : IdleLine) (s : State) : Host.Outcome State Fault Refusal :=
  live (idleStep line) s

/-- R3, R4: whether a cause sends a receiver in a state back to HUNT. -/
def abandons (cause : AbandonCause) (rx : RxState) : Bool :=
  match cause with
  | .framingError => rx != .hunt
  | .badLength n => rx != .hunt && decide (49 ≤ n.toNat)
  | .nonFlag c => rx == .armed && c != 0xC3#8

/-- R3: a telegram abandoned, or a character discarded while ARMED. -/
def abandonStep (line : Line) (cause : AbandonCause) (s : State) : State :=
  if abandons cause (s.lines.rx line) then endReception line s else s

/-- R3. -/
def execTelegramAbandoned (line : Line) (cause : AbandonCause) (s : State) :
    Host.Outcome State Fault Refusal :=
  live (abandonStep line cause) s

/-- R6, R10, R12: a complete telegram that is discarded whole ends its reception and does nothing else. -/
def discardStep (line : Line) (chars : List Byte) (s : State) : State :=
  if s.lines.rx line != .hunt && isDiscarded line chars s then endReception line s else s

/-- R6. -/
def execDiscardedTelegram (line : Line) (chars : List Byte) (s : State) :
    Host.Outcome State Fault Refusal :=
  live (discardStep line chars) s

end Sys2Proof.Machine
end

