-- ==== Sys2Proof/Machine/Management.lean ====
section
/-! DEFINITION. The management requests as commands, and the requests answered BAD_REQUEST at dispatch or
for their code (R12, R13, R177). -/

namespace Sys2Proof.Machine

/-- R178. -/
def execTableWrite (fields : List Byte) (s : State) : Host.Outcome State Fault Refusal :=
  live (receiveRequest codeTableWrite fields) s

/-- R179. -/
def execTableRead (fields : List Byte) (s : State) : Host.Outcome State Fault Refusal :=
  live (receiveRequest codeTableRead fields) s

/-- R182. -/
def execActivate (fields : List Byte) (s : State) : Host.Outcome State Fault Refusal :=
  live (receiveRequest codeActivate fields) s

/-- R149. -/
def execAcknowledge (fields : List Byte) (s : State) : Host.Outcome State Fault Refusal :=
  live (receiveRequest codeAcknowledge fields) s

/-- R181. -/
def execStatus (fields : List Byte) (s : State) : Host.Outcome State Fault Refusal :=
  live (receiveRequest codeStatus fields) s

/-- R180. -/
def execReadChannels (fields : List Byte) (s : State) : Host.Outcome State Fault Refusal :=
  live (receiveRequest codeReadChannels fields) s

/-- R180, R91. -/
def execReadZone (fields : List Byte) (s : State) : Host.Outcome State Fault Refusal :=
  live (receiveRequest codeReadZone fields) s

/-- R180. -/
def execReadFan (fields : List Byte) (s : State) : Host.Outcome State Fault Refusal :=
  live (receiveRequest codeReadFan fields) s

/-- R189. -/
def execRestart (fields : List Byte) (s : State) : Host.Outcome State Fault Refusal :=
  live (receiveRequest codeRestart fields) s

/-- R177: a REQUEST whose code names none of the nine. -/
def execUnknownRequest (code : Byte) (fields : List Byte) (s : State) :
    Host.Outcome State Fault Refusal :=
  live (receiveRequest code fields) s

/-- The telegram of a misdirected command. -/
def misdirectedTelegram (address : Byte) : Misdirected → Telegram
  | .driveSetToOwn speed => { dest := address, source := 0#8, kind := .driveSet, payload := [speed] }
  | .commandToOwn payload => { dest := address, source := 0#8, kind := .command, payload }
  | .requestToNode node payload => { dest := node, source := 0#8, kind := .request, payload }

/-- R13: a kind that is wrong for its destination is answered BAD_REQUEST at dispatch. -/
def execDispatchBadRequest (telegram : Misdirected) (s : State) : Host.Outcome State Fault Refusal :=
  live (fun s => receiveNorth (misdirectedTelegram s.address telegram) s) s

end Sys2Proof.Machine
end

