-- ==== Sys2Proof/Machine/SouthLoop.lean ====
section
/-! DEFINITION. The south loop: replies, the reply window, the arbiter's transactions, the end of a
transmission and the rate change (spec/02). -/

namespace Sys2Proof.Machine

/-! ### Replies (R25) -/

/-- R25, R48: a READING. -/
def execReading (dest source headStatus : Byte) (raw : BitVec 16) (s : State) :
    Host.Outcome State Fault Refusal :=
  live (receiveSouth { dest, source, kind := .reading, payload := headStatus :: u16 raw.toNat }
    fun tr => takeReadingFrom tr.node headStatus raw.toNat) s

/-- R25, R97: a DRIVE STATUS. -/
def execDriveStatus (dest source running feedback faultCode : Byte) (s : State) :
    Host.Outcome State Fault Refusal :=
  live (receiveSouth { dest, source, kind := .driveStatus, payload := [running, feedback, faultCode] }
    fun tr => takeDriveStatusFrom tr.node (driveReplyOf running feedback faultCode)) s

/-- R25, R172: an ANSWER. -/
def execAnswer (dest source : Byte) (payload : List Byte) (s : State) :
    Host.Outcome State Fault Refusal :=
  live (receiveSouth { dest, source, kind := .answer, payload } fun tr => takeAnswer tr payload) s

/-! ### Reply window (R26) -/

/-- R26, R45: what the expiry of a transaction's window delivers. -/
def deliverMiss (tr : Transaction) (s : State) : State :=
  match tr.purpose with
  | .scanPoll =>
    (match classifyChannel s.tables tr.node with
     | some (w, ch) => takeChannelMiss ch w.policy w.deadband s
     | none => s)
  | .scanQuery =>
    (match classifyFan s.tables tr.node with
     | some f => takeFanMiss f s
     | none => s)
  | .fanDrive =>
    (match classifyFan s.tables tr.node with
     | some f => takeFanMiss f s
     | none => s)
  | .relayPosted => s
  | .relayConfirmed kind => respondRelay tr.node kind .timeout [] s

/-- R26: the expiry of the open transaction's window; `receiving` tells that a telegram has begun to come
in on the loop (log 4). With no window running it has no effect (R11). -/
def windowExpiry (receiving : Bool) (s : State) : State :=
  match s.scan.slot with
  | none => s
  | some tr =>
    if tr.windowBegun then
      deliverMiss tr (closeSlot { s with lines := { s.lines with
        southRx := beginReception receiving s.lines.southRx } })
    else s

/-- R26. -/
def execReplyWindowExpiry (receiving : Bool) (s : State) : Host.Outcome State Fault Refusal :=
  live (windowExpiry receiving) s

/-! ### Arbitration (R27 to R32) -/

/-- R27: the loop is free. An ARMED receiver has seen two character times of idle (log 7). -/
def loopFree (s : State) : Bool :=
  s.control.device != .unconfigured && s.scan.slot.isNone && s.lines.southPending.isNone &&
    s.lines.southTx.isNone && s.lines.southRx == .armed

/-- R28 step 1, R29: the lowest-indexed enabled REMOTE fan with its flag set. -/
def flaggedFan (s : State) : Option (Fin 16) :=
  (List.finRange 16).find? fun i => s.alloc.fans[i].flag && (fanOf s.tables i).enabledRemote

/-- R29: a flag found on a fan that is not an enabled REMOTE fan is cleared without a transaction (log 11). -/
def clearStrayFlags (s : State) : State :=
  { s with
    alloc.fans := mapFin
      (fun i r => if (fanOf s.tables i).enabledRemote then r else { r with flag := false }) s.alloc.fans }

/-- The arbiter's choice. -/
inductive SouthChoice where
  | fan (f : Fin 16)
  | relay (e : RelayEntry)
  | scan (i : Nat)
  | nothing
  deriving DecidableEq, Repr

/-- R28 step 4: the head of the relay queue, when there is one. -/
def relayOrNothing : List RelayEntry → SouthChoice
  | e :: _ => .relay e
  | [] => .nothing

/-- R28: the choice at a moment at which the loop is free. -/
def southChoice (s : State) : SouthChoice :=
  match flaggedFan s with
  | some f => .fan f
  | none =>
    if s.site.interleave ≤ s.scan.interleave ∧ s.relayQueue ≠ [] then relayOrNothing s.relayQueue
    else
      match s.dueEntry with
      | some i => .scan i
      | none => relayOrNothing s.relayQueue

/-- R7, R23: a transaction opened: its telegram in transmission, the receiver held in HUNT. -/
def openTransaction (t : Telegram) (purpose : Purpose) (windowMs : Nat) (s : State) : State :=
  { s with
    lines := { s.lines with southTx := some t, southRx := .hunt }
    scan := { s.scan with slot := some { node := t.dest, purpose, windowMs, windowBegun := false } } }

/-- A telegram of the part on the south loop (R14). -/
def southTelegram (node : Byte) (kind : TelegramKind) (payload : List Byte) : Telegram :=
  { dest := node, source := 0#8, kind, payload }

/-- R29, R111: a FAN DRIVE for a fan, with its commanded duty of the moment. -/
def openFanDrive (f : Fin 16) (s : State) : State :=
  openTransaction
    (southTelegram (fanOf s.tables f).node .driveSet (u8 s.alloc.fans[f].commanded))
    .fanDrive s.site.pollTimeout
    (setFan f s.alloc.fans[f].sent s)

/-- R29: with the loop free, the lowest flagged enabled REMOTE fan is served. -/
def fanDriveStep (s : State) : State :=
  if loopFree s then
    match flaggedFan s with
    | some f => openFanDrive f (clearStrayFlags s)
    | none => clearStrayFlags s
  else s

/-- R29. -/
def execFanDrive (s : State) : Host.Outcome State Fault Refusal := live fanDriveStep s

/-- R30: the purpose of a relay's transaction. -/
def relayPurpose (e : RelayEntry) : Purpose :=
  match e.mode with
  | .posted => .relayPosted
  | .confirmed => .relayConfirmed e.kind

/-- R30, R31: the head of the relay queue removed and relayed as received. -/
def openRelay (e : RelayEntry) (s : State) : State :=
  openTransaction (southTelegram e.node (relayTelegramKind e.kind) e.payload) (relayPurpose e)
    s.site.relayTimeout
    { s with relayQueue := s.relayQueue.tail, scan := { s.scan with interleave := 0 } }

/-- R28 steps 2 and 4, R30. -/
def relayStep (s : State) : State :=
  if loopFree s then
    match southChoice s with
    | .relay e => openRelay e (clearStrayFlags s)
    | _ => s
  else s

/-- R30. -/
def execRelayTransaction (s : State) : Host.Outcome State Fault Refusal := live relayStep s

/-- R31, R32: the due entry sent its POLL or DRIVE QUERY, the position moved to the next index. -/
def openScan (i : Nat) (s : State) : State :=
  let e := scanOf s.tables i
  let poll := e.request == kindCode .poll
  openTransaction (southTelegram e.node (if poll then .poll else .driveQuery) [])
    (if poll then .scanPoll else .scanQuery) s.site.pollTimeout
    { s with scan := { s.scan with
        interleave := min (s.scan.interleave + 1) 16, scanPos := some (i + 1) } }

/-- R28 step 3, R32. -/
def scanStep (s : State) : State :=
  if loopFree s then
    match southChoice s with
    | .scan i => openScan i (clearStrayFlags s)
    | _ => s
  else s

/-- R32. -/
def execScanTransaction (s : State) : Host.Outcome State Fault Refusal := live scanStep s

/-! ### Transmission end and rate change -/

/-- R7, R24: the last CRC character has ended; the open transaction's reply window begins. -/
def southSent (s : State) : State :=
  match s.lines.southTx with
  | none => s
  | some _ =>
    { s with
      lines := { s.lines with southTx := none }
      scan := { s.scan with slot := s.scan.slot.map fun tr => { tr with windowBegun := true } } }

/-- R7. -/
def execSouthTransmissionEnd (s : State) : Host.Outcome State Fault Refusal := live southSent s

/-- R2: the pending south rate takes effect once the slot is IDLE and the line is idle. The command says
that the line is idle, for how long R2 leaves open; a line known to be in use leaves the rate pending
(DESIGN CHOICE, log 9). -/
def southRateStep (s : State) : State :=
  match s.lines.southPending with
  | none => s
  | some r =>
    if s.scan.slot = none ∧ s.lines.southTx = none ∧ s.lines.southRx ≠ .receiving then
      { s with lines := { s.lines with southRate := r, southPending := none } }
    else s

/-- R2. -/
def execSouthRateChange (s : State) : Host.Outcome State Fault Refusal := live southRateStep s

end Sys2Proof.Machine
end

