-- ==== Sys2Proof/Machine/NorthLink.lean ====
section
/-! DEFINITION. The north transmitter's arbitration, the end of a transmission, and the expiry of
supervisor silence (R155 to R159, R2, R165). -/

namespace Sys2Proof.Machine

/-- R155: whether a class waits. -/
def classWaits (s : State) : NorthClass → Bool
  | .alert => !(flaggedSources s).isEmpty
  | .response => !s.north.built.isEmpty
  | .report => !s.north.reports.isEmpty

/-- A class's wait credit. -/
def Credits.of (c : Credits) : NorthClass → Nat
  | .alert => c.alert
  | .response => c.response
  | .report => c.report

/-- R159: a class's base rank; 0 while no bank is active. -/
def baseRank (s : State) : NorthClass → Nat
  | c =>
    match s.banks.activeBank with
    | none => 0
    | some m =>
      match c with
      | .alert => (siteOf m).rankAlert
      | .response => (siteOf m).rankResponse
      | .report => (siteOf m).rankReport

/-- R157: base rank less credit, and 0 below. -/
def effectiveRank (s : State) (c : NorthClass) : Nat := baseRank s c - s.north.credits.of c

/-- The classes in tie order (R157). -/
def tieOrder : List NorthClass := [.alert, .response, .report]

/-- The first class of the lowest effective rank. -/
def lowestRank (s : State) : List NorthClass → Option NorthClass
  | [] => none
  | c :: cs =>
    match lowestRank s cs with
    | none => some c
    | some d => if effectiveRank s c ≤ effectiveRank s d then some c else some d

/-- R157: the class a choice gives the transmitter to. -/
def northClass (s : State) : Option NorthClass :=
  if (immediateSource s).isSome then some .alert else lowestRank s (tieOrder.filter (classWaits s))

/-- R158: a class's credit after a choice. -/
def creditAfter (s : State) (chosen c : NorthClass) : Nat :=
  if c = chosen then 0
  else if classWaits s c then min (s.north.credits.of c + 1) 7
  else s.north.credits.of c

/-- R158: the credits after a choice. -/
def updateCredits (chosen : NorthClass) (s : State) : State :=
  { s with north := { s.north with credits :=
      { alert := creditAfter s chosen .alert
        response := creditAfter s chosen .response
        report := creditAfter s chosen .report } } }

/-- A telegram of the part on the north link (R14). -/
def northTelegram (source : Byte) (kind : TelegramKind) (payload : List Byte) : Telegram :=
  { dest := 0#8, source, kind, payload }

/-- A telegram handed to the north transmitter. -/
def startNorth (t : Telegram) (mark : ReplyMark) (s : State) : State :=
  { s with lines := { s.lines with northTx := .sending t mark } }

/-- R145: the next notice handed as an ALERT, its flag cleared. -/
def sendAlert (s : State) : State :=
  match nextNotice s with
  | none => s
  | some i => clearNotice i (startNorth (northTelegram s.address .alert (alertPayload i s)) .plain s)

/-- The telegram of a built RESPONSE (R14; 11). -/
def responseTelegram (r : Response) : Telegram :=
  northTelegram r.source .response ([r.echo, resultCode r.result] ++ r.payload)

/-- R155: the oldest built RESPONSE handed; its entry becomes free. -/
def sendResponse (s : State) : State :=
  match s.north.built with
  | [] => s
  | r :: rest =>
    startNorth (responseTelegram r) r.mark { s with north := { s.north with built := rest } }

/-- R155: the oldest REPORT handed. -/
def sendReport (s : State) : State :=
  match s.north.reports with
  | [] => s
  | r :: rest =>
    startNorth (northTelegram s.address .report (reportBytes r)) .plain
      { s with north := { s.north with reports := rest } }

/-- R155: a class served. -/
def serveClass (c : NorthClass) (s : State) : State :=
  match c with
  | .alert => sendAlert s
  | .response => sendResponse s
  | .report => sendReport s

/-- R156, R2: the north transmitter is free. -/
def northFree (s : State) : Bool := s.lines.northTx == .ready && !s.lines.northHold

/-- R156 to R158: one choice of the north arbiter. -/
def northChoiceStep (s : State) : State :=
  if northFree s then
    match northClass s with
    | none => s
    | some c => serveClass c (updateCredits c s)
  else s

/-- R157. -/
def execNorthChoice (s : State) : Host.Outcome State Fault Refusal := live northChoiceStep s

/-! ### Transmission end (R2, R189) -/

/-- R2: the rate at the end of the transmission that ends the old rate: at once for both directions, or
at the end of the reception under way. -/
def endOldRate (l : Lines) : Lines :=
  match l.northPending with
  | .awaitingResponse r =>
    if l.northRx = .receiving then { l with northPending := .awaitingReception r, northHold := true }
    else { l with northRate := r, northPending := .none }
  | _ => l

/-- The effect of a mark at the end of its RESPONSE's transmission. -/
def markEffect (mark : ReplyMark) (s : State) : State :=
  match mark with
  | .plain => s
  | .endsOldRate => { s with lines := endOldRate s.lines }
  | .restartDone => { s with banks := { s.banks with warmResetDue := true } }

/-- R7, R156: a north telegram has been fully transmitted; `receiving` tells that the north receiver is
taking in a telegram at that end (log 4). -/
def northSent (receiving : Bool) (s : State) : State :=
  match s.lines.northTx with
  | .sending _ mark =>
    markEffect mark { s with lines := { s.lines with
      northTx := .settling, northRx := beginReception receiving s.lines.northRx } }
  | _ => s

/-- R2. -/
def execNorthTransmissionEnd (receiving : Bool) (s : State) : Host.Outcome State Fault Refusal :=
  live (northSent receiving) s

/-! ### Supervisor silence (R165) -/

/-- The confirmed entries of a relay queue, each holding a reservation (R165). -/
def confirmedCount (q : List RelayEntry) : Nat := q.countP fun e => e.mode == .confirmed

/-- R105, R165: the setpoints dropped, the relay queue emptied, its reservations freed. -/
def dropSupervisorWork (s : State) : State :=
  { s with
    alloc := { s.alloc with fans := s.alloc.fans.map (FanRec.dropManual s.control.device) }
    relayQueue := []
    north := { s.north with
      reserved := s.north.reserved - confirmedCount s.relayQueue
      silence := .expired
      supervisorLost := true } }

/-- R165: the expiry of the silence timer. -/
def silenceExpiry (s : State) : State :=
  match s.north.silence with
  | .running _ => evalRelays (handCondition sourceSupervisorLost true (dropSupervisorWork s))
  | _ => s

/-- R165. -/
def execSupervisorSilenceExpiry (s : State) : Host.Outcome State Fault Refusal :=
  live silenceExpiry s

end Sys2Proof.Machine
end

