-- ==== Sys2Proof/Machine/Pins.lean ====
section
/-! DEFINITION. Tach pulses, PWM period ends (R98, R107), and what the output pins show (R126, R198). -/

namespace Sys2Proof.Machine

/-- R98: a pulse on a tach input; a count at 65535 stays there. -/
def countPulse (k : Fin 4) (s : State) : State :=
  { s with pwm := { s.pwm with tach := s.pwm.tach.set k (min (s.pwm.tach[k] + 1) 65535) } }

/-- R98. -/
def execTachPulse (input : Fin 4) (s : State) : Host.Outcome State Fault Refusal :=
  live (countPulse input) s

/-- R107: an output's period ends. -/
def periodEnd (k : Fin 4) (s : State) : State :=
  { s with pwm := { s.pwm with outputs := s.pwm.outputs.set k s.pwm.outputs[k].periodEnd } }

/-- R107. -/
def execPwmPeriodEnd (output : Fin 4) (s : State) : Host.Outcome State Fault Refusal :=
  live (periodEnd output) s

/-! ### Output pins -/

/-- R198: SL_DE is high while the part transmits on the south loop. -/
def pinSlDe (s : State) : Bool := s.lines.southTx.isSome

/-- R198: an output is high through its high width; `phase` is the time in µs since its period began
(log 26). During a hold the pin is driven high (R197). -/
def pinPwm (s : State) (k : Fin 4) (phase : Nat) : Bool :=
  s.held || decide (phase < s.pwm.outputs[k].running.high)

/-- R198: ALARM conducts while energized. -/
def pinAlarm (s : State) : Bool := !s.held && s.alarm.alarmOn

/-- R198: HORN conducts while on. -/
def pinHorn (s : State) : Bool := !s.held && s.alarm.hornOn

/-- R198: CHINH conducts while CHARGER INHIBIT is released. -/
def pinChinh (s : State) : Bool := !s.held && !s.alloc.inhibit

/-- R198: READY is high while on. -/
def pinReady (s : State) : Bool := !s.held && s.control.ready

end Sys2Proof.Machine
end

