-- ==== Sys2Proof/Machine/Relay.lean ====
section
/-! DEFINITION. The supervisor's telegrams to field nodes, DRIVE SET and COMMAND (R168, R169). -/

namespace Sys2Proof.Machine

/-- R168: a north DRIVE SET to a field node. -/
def execDriveSet (node speed : Byte) (s : State) : Host.Outcome State Fault Refusal :=
  live (receiveNorth { dest := node, source := 0#8, kind := .driveSet, payload := [speed] }) s

/-- R169: a north COMMAND to a field node. -/
def execCommand (node : Byte) (payload : List Byte) (s : State) : Host.Outcome State Fault Refusal :=
  live (receiveNorth { dest := node, source := 0#8, kind := .command, payload }) s

end Sys2Proof.Machine
end

