-- ==== Sys2Proof/Machine/Resets.lean ====
section
/-! DEFINITION. COLD_RESET, RESET_HOLD and WARM_RESET (R126, R127, R197). -/

namespace Sys2Proof.Machine

/-- R126, R196, R197: an input that holds the part is released, with the strap as it stands. -/
def execColdReset (release : Release) (s : State) : Host.Outcome State Fault Refusal :=
  .next (releaseHold release s)

/-- R126, R197: an input brings the part into a hold, or joins one; a low RESET_N of less than 10 µs is
ignored. -/
def execResetHold (cause : HoldCause) (s : State) : Host.Outcome State Fault Refusal :=
  .next (if s.hold.counts cause then resetHold (s.hold.joined cause) s else s)

/-- R127, R189: the warm reset, taken once the RESTART's DONE has been transmitted. -/
def execWarmReset (s : State) : Host.Outcome State Fault Refusal :=
  live (fun s => if s.banks.warmResetDue then warmReset s else s) s

end Sys2Proof.Machine
end

