-- ==== Sys2Proof/Machine/Dispatch.lean ====
section
/-! DEFINITION. One arm for each command. -/

namespace Sys2Proof.Machine

def exec (i : Instr) (s : State) : Host.Outcome State Fault Refusal :=
  match i with
  | .coldReset release => Sys2Proof.Machine.execColdReset release s
  | .resetHold cause => Sys2Proof.Machine.execResetHold cause s
  | .warmReset => Sys2Proof.Machine.execWarmReset s
  | .tableWrite fields => Sys2Proof.Machine.execTableWrite fields s
  | .tableRead fields => Sys2Proof.Machine.execTableRead fields s
  | .activate fields => Sys2Proof.Machine.execActivate fields s
  | .acknowledge fields => Sys2Proof.Machine.execAcknowledge fields s
  | .status fields => Sys2Proof.Machine.execStatus fields s
  | .readChannels fields => Sys2Proof.Machine.execReadChannels fields s
  | .readZone fields => Sys2Proof.Machine.execReadZone fields s
  | .readFan fields => Sys2Proof.Machine.execReadFan fields s
  | .restart fields => Sys2Proof.Machine.execRestart fields s
  | .driveSet node speed => Sys2Proof.Machine.execDriveSet node speed s
  | .command node payload => Sys2Proof.Machine.execCommand node payload s
  | .reading dest source headStatus raw => Sys2Proof.Machine.execReading dest source headStatus raw s
  | .driveStatus dest source running feedback faultCode => Sys2Proof.Machine.execDriveStatus dest source running feedback faultCode s
  | .answer dest source payload => Sys2Proof.Machine.execAnswer dest source payload s
  | .replyWindowExpiry receiving => Sys2Proof.Machine.execReplyWindowExpiry receiving s
  | .localConversionComplete sample => Sys2Proof.Machine.execLocalConversionComplete sample s
  | .cycleTimerExpiry => Sys2Proof.Machine.execCycleTimerExpiry s
  | .cycleClose => Sys2Proof.Machine.execCycleClose s
  | .fanDrive => Sys2Proof.Machine.execFanDrive s
  | .relayTransaction => Sys2Proof.Machine.execRelayTransaction s
  | .scanTransaction => Sys2Proof.Machine.execScanTransaction s
  | .southRateChange => Sys2Proof.Machine.execSouthRateChange s
  | .northChoice => Sys2Proof.Machine.execNorthChoice s
  | .northTransmissionEnd receiving => Sys2Proof.Machine.execNorthTransmissionEnd receiving s
  | .activationCheckEnd => Sys2Proof.Machine.execActivationCheckEnd s
  | .purgeTimerExpiry => Sys2Proof.Machine.execPurgeTimerExpiry s
  | .supervisorSilenceExpiry => Sys2Proof.Machine.execSupervisorSilenceExpiry s
  | .tachPulse input => Sys2Proof.Machine.execTachPulse input s
  | .pwmPeriodEnd output => Sys2Proof.Machine.execPwmPeriodEnd output s
  | .lineIdle line => Sys2Proof.Machine.execLineIdle line s
  | .telegramAbandoned line cause => Sys2Proof.Machine.execTelegramAbandoned line cause s
  | .discardedTelegram line chars => Sys2Proof.Machine.execDiscardedTelegram line chars s
  | .dispatchBadRequest telegram => Sys2Proof.Machine.execDispatchBadRequest telegram s
  | .unknownRequest code fields => Sys2Proof.Machine.execUnknownRequest code fields s
  | .southTransmissionEnd => Sys2Proof.Machine.execSouthTransmissionEnd s

end Sys2Proof.Machine
end

