-- ==== Sys2Proof/WellFormed.lean ====
section
/-! DEFINITION. Which commands stand for an event of their row, judged from the operands alone. The
machine does not rely on it: a command outside it runs through the same rules (log 27). -/

namespace Sys2Proof

/-- A field node address, 1..247 (R8). -/
def isFieldNode (node : Byte) : Bool := decide (1 ≤ node.toNat ∧ node.toNat ≤ 247)

/-- A request code that names one of the nine requests (11, requests table). -/
def namesRequest (code : Byte) : Bool := decide (1 ≤ code.toNat ∧ code.toNat ≤ 9)

/-- The request fields of a REQUEST telegram: with the code, 1..48 characters (R9). -/
def fieldsFit (fields : List Byte) : Bool := decide (fields.length ≤ 47)

/-- Whether the characters are those of one complete telegram: the flag, a length of 0..48 and that
many payload characters between the header and the CRC (R3, R4). -/
def isCompleteFrame (chars : List Byte) : Bool :=
  chars.head? == some 0xC3#8 &&
    (match chars[4]? with
     | some n => decide (n.toNat ≤ 48 ∧ chars.length = n.toNat + 7)
     | none => false)

/-- The operands make the command an event of its row. A low RESET_N of less than 10 µs is one while the
supply holds the part (R197), which the operands do not tell. -/
def Instr.wellFormed : Instr → Bool
  | .resetHold (.resetLow us) => decide (1 ≤ us)
  | .resetHold (.supplyAt mv) => decide (mv < 3000)
  | .tableWrite fields => fieldsFit fields
  | .tableRead fields => fieldsFit fields
  | .activate fields => fieldsFit fields
  | .acknowledge fields => fieldsFit fields
  | .status fields => fieldsFit fields
  | .readChannels fields => fieldsFit fields
  | .readZone fields => fieldsFit fields
  | .readFan fields => fieldsFit fields
  | .restart fields => fieldsFit fields
  | .driveSet node _ => isFieldNode node
  | .command node payload => isFieldNode node && decide (payload.length ≤ 48)
  | .reading _ _ headStatus _ => decide (headStatus.toNat ≤ 2)
  | .answer _ _ payload => decide (payload.length ≤ 48)
  | .telegramAbandoned _ .framingError => true
  | .telegramAbandoned _ (.badLength n) => decide (49 ≤ n.toNat)
  | .telegramAbandoned _ (.nonFlag c) => c != 0xC3#8
  | .discardedTelegram _ chars => isCompleteFrame chars
  | .dispatchBadRequest (.driveSetToOwn _) => true
  | .dispatchBadRequest (.commandToOwn payload) => decide (payload.length ≤ 48)
  | .dispatchBadRequest (.requestToNode node payload) =>
      isFieldNode node && decide (1 ≤ payload.length ∧ payload.length ≤ 48)
  | .unknownRequest code fields => !namesRequest code && fieldsFit fields
  | .coldReset _ => true
  | .warmReset => true
  | .driveStatus _ _ _ _ _ => true
  | .replyWindowExpiry _ => true
  | .localConversionComplete _ => true
  | .cycleTimerExpiry => true
  | .cycleClose => true
  | .fanDrive => true
  | .relayTransaction => true
  | .scanTransaction => true
  | .southRateChange => true
  | .northChoice => true
  | .northTransmissionEnd _ => true
  | .activationCheckEnd => true
  | .purgeTimerExpiry => true
  | .supervisorSilenceExpiry => true
  | .tachPulse _ => true
  | .pwmPeriodEnd _ => true
  | .lineIdle _ => true
  | .southTransmissionEnd => true

/-- A command that is an event of its row. -/
abbrev Instr.WellFormed (i : Instr) : Prop := i.wellFormed = true

end Sys2Proof
end

