-- ==== Sys2Proof/Safety.lean ====
section
/-! DEFINITION. The terms the claims are written in: when a telegram can be taken in, what an arrival
leaves, and the invariants of the part. -/

namespace Sys2Proof.Machine

/-! ### When a command can act -/

/-- A north telegram can be taken in: the part is out of reset and its north receiver is not in HUNT
(R3, R126). -/
abbrev State.northOpen (s : State) : Prop := s.held = false ∧ s.lines.northRx ≠ .hunt

/-- A south telegram can be taken in: the part is out of reset and its south receiver is not in HUNT. -/
abbrev State.southOpen (s : State) : Prop := s.held = false ∧ s.lines.southRx ≠ .hunt

/-- At least one entry of the reply queue is free (R161). -/
abbrev State.replyFree (s : State) : Prop := s.north.reserved + s.north.built.length < 4

/-- The state in which an arrived north telegram is dispatched: its reception has ended (R3) and the
supervisor-silence timer has been restarted (R163). -/
def State.afterArrival (s : State) : State := restartSilence (endReception .north s)

/-- A plain RESPONSE at the newest end of the built RESPONSEs, in the entry reserved at the arrival (R162). -/
def State.answered (s : State) (source echo : Byte) (result : ResultCode) (payload : List Byte) : State :=
  { s with north := { s.north with
      built := s.north.built ++ [{ source, echo, result, payload, mark := .plain }] } }

/-- R27: the south loop is free: the Scan Engine runs, the slot is IDLE, no rate change is pending, and the
line has been idle for two character times, which an ARMED receiver has seen (log 7). -/
abbrev State.southLoopFree (s : State) : Prop :=
  s.held = false ∧ s.control.device ≠ .unconfigured ∧ s.scan.slot = none ∧ s.lines.southPending = none ∧
    s.lines.southTx = none ∧ s.lines.southRx = .armed

/-- R28, R29: no enabled REMOTE fan has its drive-set pending flag set. -/
abbrev State.noFanFlagged (s : State) : Prop :=
  ∀ g : Fin 16, s.alloc.fans[g].flag = true →
    ¬ ((fanOf s.tables g).enable = true ∧ (fanOf s.tables g).remote = true)

/-- R29: the flag of every fan that is not an enabled REMOTE fan cleared (log 11). -/
def State.strayFlagsCleared (s : State) : State :=
  { s with alloc := { s.alloc with
      fans := Vector.ofFn fun g : Fin 16 =>
        if (fanOf s.tables g).enable = true ∧ (fanOf s.tables g).remote = true then s.alloc.fans[g]
        else { s.alloc.fans[g] with flag := false } } }

/-- R16, R17: the scan entry of an index is due in the current cycle. -/
def State.isDue (s : State) (i : Nat) : Prop :=
  i < scanListLength s.tables ∧ (scanOf s.tables i).live = true ∧
    s.scan.cycle % (scanOf s.tables i).cadence = 0

/-- R32: no scan entry of this cycle is left to take. -/
def State.scanDone (s : State) : Prop :=
  ∀ pos, s.scan.scanPos = some pos → ∀ i, pos ≤ i → i < 64 → ¬ s.isDue i

/-- R20: the cycle close is due. -/
def State.closeReady (s : State) : Prop :=
  s.held = false ∧ s.control.device ≠ .unconfigured ∧ s.scan.cycleOpen = true ∧ s.scanDone ∧
    s.scan.slot = none ∧ s.converter = []

/-- A close that completes no swap and ends no purge of 0 s (R121, R187). -/
def State.plainClose (s : State) : Prop :=
  s.closeReady ∧ s.banks.state ≠ .swapPending ∧
    ¬ (s.control.device = .purge ∧ s.control.purgeTimer = some 0)

/-- R25, R3: the state in which a reply that ends the open transaction is handed on. -/
def State.afterReply (s : State) : State :=
  { s with lines := { s.lines with southRx := .hunt }, scan := { s.scan with slot := none } }

/-- R40, R41: a live window of a number claims a reply of a kind from a node. -/
def State.windowClaims (s : State) (k : Nat) (kind : ReplyKind) (node : Byte) : Prop :=
  (windowOf s.tables k).enable = true ∧ (windowOf s.tables k).accepts = kind ∧
    ((kind = .reading ∧ (windowOf s.tables k).target = .channel) ∨
      (kind = .driveStatus ∧ (windowOf s.tables k).target = .fan)) ∧
    node &&& (windowOf s.tables k).mask = (windowOf s.tables k).base &&& (windowOf s.tables k).mask

/-- R41: a reply of a kind from a node is classified by window `k`, the lowest-numbered that claims it, to
an index. -/
def State.classifies (s : State) (kind : ReplyKind) (node : Byte) (k index : Nat) : Prop :=
  k < 16 ∧ s.windowClaims k kind node ∧ (∀ j, j < k → ¬ s.windowClaims j kind node) ∧
    index = (windowOf s.tables k).targetBase + (node &&& ~~~(windowOf s.tables k).mask).toNat

/-- R41: a reply of a kind from a node is unclassified: no live window claims it, or the classifying
window maps it outside its table, which has `size` places. -/
def State.unclassified (s : State) (kind : ReplyKind) (node : Byte) (size : Nat) : Prop :=
  (∀ k, k < 16 → ¬ s.windowClaims k kind node) ∨
    ∃ k index, s.classifies kind node k index ∧ size ≤ index

/-- R95: a fan record after a bad sample, with the fan's entry. -/
def FanRec.afterBad (e : FanEntry) (r : FanRec) : FanRec :=
  { r with
    goodCount := 0
    failCount := if r.health = .failed then e.failCycles else r.failCount + 1
    health :=
      if r.health = .failed ∨ r.failCount + 1 = e.failCycles then .failed else r.health }

/-- R95: a fan record after a good sample, with the fan's entry. -/
def FanRec.afterGood (e : FanEntry) (r : FanRec) : FanRec :=
  { r with
    goodCount := if r.goodCount < 15 then r.goodCount + 1 else 15
    failCount := 0
    health :=
      if r.health = .failed ∧ (if r.goodCount < 15 then r.goodCount + 1 else 15) < e.recoverCycles then
        .failed
      else .running }

/-- R70: the gas set of a zone at a close. -/
def State.gasChannels (s : State) (z : Nat) : List (Fin 64) :=
  (List.finRange 64).filter fun (i : Fin 64) =>
    (channelOf s.tables i).kind == .gas && (channelOf s.tables i).zone == z &&
      (s.store.channels[i].health == .healthy || s.store.channels[i].health == .suspect)

/-- R79: a zone is tripped. -/
def State.tripped (s : State) (z : Nat) : Prop :=
  ∃ i : Fin 64, (channelOf s.tables i).kind = .spill ∧ (channelOf s.tables i).zone = z ∧
    (s.store.channels[i].health = .healthy ∨ s.store.channels[i].health = .suspect) ∧
    (channelOf s.tables i).trip ≤ s.store.channels[i].value

/-- R81, R82: the sum of cells × I over the CURRENT channels of a zone. -/
def State.currentSum (s : State) (z : Nat) : Nat :=
  (((List.finRange 64).filter fun (i : Fin 64) =>
    (channelOf s.tables i).kind == .current && (channelOf s.tables i).zone == z).map fun (i : Fin 64) =>
      (channelOf s.tables i).cells *
        (if s.store.channels[i].health = .healthy ∨ s.store.channels[i].health = .suspect then
          s.store.channels[i].value
        else (channelOf s.tables i).fallback)).sum

/-- R100: the available airflow of a zone, with the health a state's fan records hold. -/
def State.airflow (s : State) (z : Nat) : Nat :=
  (((List.finRange 16).filter fun (i : Fin 16) =>
    (fanOf s.tables i).enable && (fanOf s.tables i).zone == z && s.alloc.fans[i].health == .running).map
      fun (i : Fin 16) => (fanOf s.tables i).rated).sum

/-- R112: a zone that holds boost charge off. -/
def State.zoneInhibits (s : State) (z : Fin 8) : Prop :=
  (zoneOf s.tables z).enable = true ∧
    (s.zones[z].blind = true ∨ s.zones[z].spill = true ∨ s.zones[z].shortfall = true ∨
      s.zones[z].effective = .alarm ∨ s.zones[z].effective = .danger)

/-- R132: the condition of a zone and zone kind after a close, from the records it leaves. -/
def State.zoneHolds (s : State) (z : Fin 8) (k : Fin 9) : Prop :=
  (zoneOf s.tables z).enable = true ∧
    match k with
    | 0 => s.zones[z].stored ≠ .normal
    | 1 => s.zones[z].stored = .alarm ∨ s.zones[z].stored = .danger
    | 2 => s.zones[z].stored = .danger
    | 3 => (zoneOf s.tables z).rateLimit ≠ 0 ∧ ((zoneOf s.tables z).rateLimit : Int) ≤ s.zones[z].rate
    | 4 => s.zones[z].blind = true
    | 5 => s.tripped z
    | 6 => s.zones[z].shortfall = true
    | 7 => ∃ f : Fin 16, (fanOf s.tables f).enable = true ∧ (fanOf s.tables f).zone = z.val ∧
        s.alloc.fans[f].health = .failed
    | 8 => ∃ i : Fin 64, (channelOf s.tables i).kind ≠ .none ∧ (channelOf s.tables i).zone = z.val ∧
        s.store.channels[i].health = .failed

/-- R155: a class of north traffic waits. -/
def State.waits (s : State) : NorthClass → Prop
  | .alert => ∃ i : Fin 77, s.alarm.sources[i].notice = true
  | .response => s.north.built ≠ []
  | .report => s.north.reports ≠ []

/-- R157, R159: the effective rank of a class. -/
def State.rank (s : State) : NorthClass → Nat
  | .alert => (if s.banks.active = none then 0 else s.site.rankAlert) - s.north.credits.alert
  | .response => (if s.banks.active = none then 0 else s.site.rankResponse) - s.north.credits.response
  | .report => (if s.banks.active = none then 0 else s.site.rankReport) - s.north.credits.report

/-- The place of a class in the tie order (R157). -/
def NorthClass.tie : NorthClass → Nat
  | .alert => 0
  | .response => 1
  | .report => 2

/-- R144: an immediate notice is pending. -/
def State.immediatePending (s : State) : Prop :=
  ∃ i : Fin 77, s.alarm.sources[i].notice = true ∧ s.policy.immediate = some (s.policy.level i)

/-- R157: the choice gives the transmitter to a class. -/
def State.chooses (s : State) (c : NorthClass) : Prop :=
  (s.immediatePending ∧ c = .alert) ∨
    (¬ s.immediatePending ∧ s.waits c ∧
      ∀ d, s.waits d → s.rank c ≤ s.rank d ∧ (s.rank c = s.rank d → c.tie ≤ d.tie))

/-- R156, R2: the north transmitter is free. -/
abbrev State.northFreeNow (s : State) : Prop :=
  s.held = false ∧ s.lines.northTx = .ready ∧ s.lines.northHold = false

/-- R144: the next notice. -/
def State.isNextNotice (s : State) (i : Fin 77) : Prop :=
  s.alarm.sources[i].notice = true ∧
    (s.immediatePending → s.policy.immediate = some (s.policy.level i) ∧
      ∀ j : Fin 77, s.alarm.sources[j].notice = true →
        s.policy.immediate = some (s.policy.level j) → i ≤ j) ∧
    (¬ s.immediatePending → s.policy.level i ∈ s.policy.order ∧
      ∀ j : Fin 77, s.alarm.sources[j].notice = true →
        s.policy.order.idxOf (s.policy.level i) ≤ s.policy.order.idxOf (s.policy.level j) ∧
          (s.policy.level i = s.policy.level j → i ≤ j))

/-- R183, R195: the image of a bank. -/
def imageOf (m : Memory) : List Byte := (List.range 1754).map fun a => m.read a

/-- R184: the ten checks in order. -/
def tenChecks (m : Memory) : List Bool :=
  [check1 m, check2 m, check3 m, check4 m, check5 m, check6 m, check7 m, check8 m, check9 m, check10 m]

/-- R8: the own north address is one of the eight that a strap gives. -/
abbrev State.OwnAddress (s : State) : Prop := 248 ≤ s.address.toNat

/-- R3, R2: the lines after the end of a north reception. -/
def northReceptionEnded (l : Lines) : Lines :=
  { l with
    northRx := .hunt, northHold := false
    northRate :=
      match l.northPending with
      | .awaitingReception r => r
      | _ => l.northRate
    northPending :=
      match l.northPending with
      | .awaitingReception _ => .none
      | p => p }

/-- R146 to R148: the two relays as the sources and the policy in force give them. -/
def State.relaysFollow (s : State) : Prop :=
  (s.alarm.alarmOn = true ↔ ∃ i : Fin 77, s.alarm.sources[i].state ≠ .normal) ∧
    (s.alarm.hornOn = true ↔ ∃ i : Fin 77, s.policy.level i ∈ s.policy.audible ∧
      (s.alarm.sources[i].state = .raised ∨ s.alarm.sources[i].state = .returned))

/-- R140, R141, R143: a source record after it has been handed a condition. -/
def SourceRec.handed (cls : AlarmClass) (holds : Bool) (r : SourceRec) : SourceRec :=
  match r.condition, holds, r.state with
  | false, true, .normal => { state := .raised, condition := true, notice := true }
  | false, true, .returned => { state := .raised, condition := true, notice := true }
  | true, false, .raised =>
    { state := if cls = .selfClearing then .normal else .returned, condition := false, notice := true }
  | true, false, .acked => { state := .normal, condition := false, notice := true }
  | _, _, _ => { r with condition := holds }

/-- R3: a receiver at a command that tells whether a telegram has begun to come in (log 4). -/
def RxState.noted (receiving : Bool) (rx : RxState) : RxState :=
  if receiving = true ∧ rx = .armed then .receiving else rx

/-- R163: the silence timer as an arrival or an entry into PURGE starts it. -/
def State.silenceStarted (s : State) : SilenceTimer :=
  if s.site.silence = 0 then .stopped else .running s.site.silence

/-- R16 to R18, R54: a cycle start on a state: the next cycle number, the timer, the scan position, the
conversions. -/
def State.started (s : State) : State :=
  { s with
    scan := { s.scan with
      cycle := if s.scan.cycle = 65535 then 0 else s.scan.cycle + 1
      timer := .running s.site.scanPeriod
      cycleOpen := true
      scanPos := some 0 }
    converter := (List.finRange 4).filter fun k => (channelOf s.tables (60 + k.val)).kind ≠ .none }

/-- The commands that are the arrival of a north telegram from the supervisor, whole and well formed
(R9, R12). -/
def isNorthArrival : Instr → Bool
  | .tableWrite fields => fieldsFit fields
  | .tableRead fields => fieldsFit fields
  | .activate fields => fieldsFit fields
  | .acknowledge fields => fieldsFit fields
  | .status fields => fieldsFit fields
  | .readChannels fields => fieldsFit fields
  | .readZone fields => fieldsFit fields
  | .readFan fields => fieldsFit fields
  | .restart fields => fieldsFit fields
  | .unknownRequest code fields => !namesRequest code && fieldsFit fields
  | .driveSet node _ => isFieldNode node
  | .command node payload => isFieldNode node && decide (payload.length ≤ 48)
  | .dispatchBadRequest telegram => Instr.wellFormed (.dispatchBadRequest telegram)
  | .coldReset _ => false
  | .resetHold _ => false
  | .warmReset => false
  | .reading _ _ _ _ => false
  | .driveStatus _ _ _ _ _ => false
  | .answer _ _ _ => false
  | .replyWindowExpiry _ => false
  | .localConversionComplete _ => false
  | .cycleTimerExpiry => false
  | .cycleClose => false
  | .fanDrive => false
  | .relayTransaction => false
  | .scanTransaction => false
  | .southRateChange => false
  | .northChoice => false
  | .northTransmissionEnd _ => false
  | .activationCheckEnd => false
  | .purgeTimerExpiry => false
  | .supervisorSilenceExpiry => false
  | .tachPulse _ => false
  | .pwmPeriodEnd _ => false
  | .lineIdle _ => false
  | .telegramAbandoned _ _ => false
  | .discardedTelegram _ _ => false
  | .southTransmissionEnd => false

/-! ### Invariants -/

/-- R175, R195: both banks in canonical form, with no byte outside the 1754 of an image. -/
structure State.BanksInForm (s : State) : Prop where
  formA : s.banks.bankA.wf = true
  formB : s.banks.bankB.wf = true
  insideA : ∀ c ∈ s.banks.bankA, c.1 < imageLength
  insideB : ∀ c ∈ s.banks.bankB, c.1 < imageLength

/-- R175: the bank that is active has passed the ten checks, and so has the standby bank of a pending swap. -/
structure State.BanksChecked (s : State) : Prop where
  active : ∀ m, s.banks.activeBank = some m → firstFailedCheck m = none
  pendingSwap : s.banks.state = .swapPending → firstFailedCheck s.banks.standbyBank = none

/-- How many telegrams are owed a RESPONSE not yet built: the confirmed relays that wait, the confirmed
relay that is open, and the activation in progress (R161, R172, R176). -/
def State.owed (s : State) : Nat :=
  (s.relayQueue.filter fun e => e.mode == .confirmed).length +
    (match s.scan.slot with
     | some { purpose := .relayConfirmed _, .. } => 1
     | _ => 0) +
    (match s.banks.state with
     | .idle => 0
     | _ => 1)

/-- R158, R160, R161, R170: every reserved entry belongs to one telegram that is owed a RESPONSE, and no
queue or credit passes its bound. -/
structure State.QueuesAccounted (s : State) : Prop where
  reserved : s.north.reserved = s.owed
  replies : s.north.reserved + s.north.built.length ≤ 4
  reports : s.north.reports.length ≤ 24
  relays : s.relayQueue.length ≤ 4
  alertCredit : s.north.credits.alert ≤ 7
  responseCredit : s.north.credits.response ≤ 7
  reportCredit : s.north.credits.report ≤ 7

/-- R131: a source in RAISED or ACKED has its condition holding, one in NORMAL or RETURNED has not. -/
structure State.SourcesCoherent (s : State) : Prop where
  holds : ∀ i : Fin 77, s.alarm.sources[i].condition = true ↔
    (s.alarm.sources[i].state = .raised ∨ s.alarm.sources[i].state = .acked)

/-- R146, R148: the two relays follow the sources and the policy in force, and are off during a hold. -/
structure State.RelaysFollow (s : State) : Prop where
  alarm : s.alarm.alarmOn = true ↔ ∃ i : Fin 77, s.alarm.sources[i].state ≠ .normal
  horn : s.alarm.hornOn = true ↔ ∃ i : Fin 77, s.policy.level i ∈ s.policy.audible ∧
    (s.alarm.sources[i].state = .raised ∨ s.alarm.sources[i].state = .returned)
  hold : s.held = true → s.alarm.alarmOn = false ∧ s.alarm.hornOn = false

/-- R118, R119, R121, R125, R133 to R135, R163: what the device state fixes in the other blocks. -/
structure State.DeviceCoherent (s : State) : Prop where
  bank : s.control.device = .unconfigured ↔ s.banks.active = none
  ready : s.control.ready = true ↔ s.control.device = .run
  purgeTimer : s.control.purgeTimer.isSome = true ↔ s.control.device = .purge
  inhibit : s.control.device ≠ .run → s.alloc.inhibit = true
  swap : s.banks.state = .swapPending → s.banks.active ≠ none
  unconfigured : s.held = false →
    (s.alarm.sources[(72 : Fin 77)].condition = true ↔ s.control.device = .unconfigured)
  purge : s.alarm.sources[(73 : Fin 77)].condition = true ↔ s.control.device = .purge
  overrun : s.alarm.sources[(74 : Fin 77)].condition = true ↔ s.scan.overrun = true
  lost : s.alarm.sources[(75 : Fin 77)].condition = true ↔ s.north.supervisorLost = true
  silence : s.north.supervisorLost = true ↔ s.north.silence = .expired
  quiet : s.control.device = .unconfigured → s.north.silence = .stopped

/-- R22, R35, R37, R108, R120, R163, R186: the blocks of a part that is UNCONFIGURED. -/
structure State.UnconfiguredStands (s : State) : Prop where
  scan : s.control.device = .unconfigured → s.scan = ScanEngine.initial
  converter : s.control.device = .unconfigured → s.converter = []
  relays : s.control.device = .unconfigured → s.relayQueue = []
  silence : s.control.device = .unconfigured →
    s.north.silence = .stopped ∧ s.north.supervisorLost = false
  outputs : s.control.device = .unconfigured → ∀ k : Fin 4, s.pwm.outputs[k] = PwmOutput.initial
  rates : s.control.device = .unconfigured →
    s.lines.southRate = .b19200 ∧ s.lines.northRate = .b19200 ∧ s.lines.southPending = none ∧
      s.lines.northPending = .none
  bank : s.control.device = .unconfigured ↔ s.banks.active = none
  secondBank : s.banks.active = none → s.banks.bankB = []
  swap : s.banks.active = none → s.banks.state ≠ .swapPending
  overrun : s.control.device = .unconfigured → s.alarm.sources[(74 : Fin 77)].condition = false

/-- R42, R90, R94: a record whose entry is disabled stands at its reset values. -/
structure State.DisabledAtReset (s : State) : Prop where
  channels : ∀ i : Fin 64, (channelOf s.tables i).kind = .none →
    s.store.channels[i] = ChannelRec.initial
  zones : ∀ z : Fin 8, (zoneOf s.tables z).enable = false → s.zones[z] = ZoneRec.initial
  fans : ∀ f : Fin 16, (fanOf s.tables f).enable = false → s.alloc.fans[f] = FanRec.initial

/-- R19, R31, R47, R49, R68, R73 to R75, R82, R83, R98: the measured values lie in their ranges. -/
structure State.MeasuredInRange (s : State) : Prop where
  value : ∀ i : Fin 64, s.store.channels[i].value ≤ kindMaximum (channelOf s.tables i).kind
  lastRaw : ∀ i : Fin 64, s.store.channels[i].lastRaw ≤ 4095
  recovery : ∀ i : Fin 64, s.store.channels[i].recovery ≤ 2
  held : ∀ z : Fin 8, s.zones[z].held ≤ 1000
  ringLength : ∀ z : Fin 8, s.zones[z].ring.length ≤ 6
  ring : ∀ z : Fin 8, ∀ v ∈ s.zones[z].ring, v ≤ 1000
  rate : ∀ z : Fin 8, -1000 ≤ s.zones[z].rate ∧ s.zones[z].rate ≤ 1000
  qGen : ∀ z : Fin 8, s.zones[z].qGen ≤ 65535
  qReq : ∀ z : Fin 8, s.zones[z].qReq ≤ 65535
  tach : ∀ k : Fin 4, s.pwm.tach[k] ≤ 65535
  cycle : s.scan.cycle ≤ 65535
  interleave : s.scan.interleave ≤ 16

/-- R51, R94, R95, R101, R103, R104, R110, R122: with an active bank that has passed its checks, the
counts of an enabled channel and an enabled fan stay within the limits of their entries, the duties within
100, and every fan is commanded 100 outside RUN. -/
structure State.CountsAndDuties (s : State) : Prop where
  checked : s.BanksChecked
  misses : ∀ i : Fin 64, (channelOf s.tables i).kind ≠ .none →
    s.store.channels[i].missCount ≤ (channelOf s.tables i).missLimit ∧
      (s.store.channels[i].health ≠ .failed →
        s.store.channels[i].missCount < (channelOf s.tables i).missLimit)
  fails : ∀ f : Fin 16, (fanOf s.tables f).enable = true →
    s.alloc.fans[f].failCount ≤ (fanOf s.tables f).failCycles ∧
      (s.alloc.fans[f].health ≠ .failed →
        s.alloc.fans[f].failCount < (fanOf s.tables f).failCycles)
  goods : ∀ f : Fin 16, s.alloc.fans[f].goodCount ≤ 15
  allocated : ∀ f : Fin 16, s.alloc.fans[f].allocated ≤ 100
  commanded : ∀ f : Fin 16, s.alloc.fans[f].commanded ≤ 100
  manual : ∀ f : Fin 16, ∀ v, s.alloc.fans[f].manual = some v → v ≤ 100
  lastSent : ∀ f : Fin 16, ∀ v, s.alloc.fans[f].lastSent = some v → v ≤ 100
  sinceSent : ∀ f : Fin 16, s.alloc.fans[f].sinceSent ≤ 16
  fullOutsideRun : s.control.device ≠ .run → ∀ f : Fin 16, s.alloc.fans[f].commanded = 100

/-- R7, R23, R24, R38: a telegram in transmission is the one of the open transaction, whose window has
not begun, and the receiver is held in HUNT; an open transaction whose telegram has gone has its window
running. -/
structure State.SouthDiscipline (s : State) : Prop where
  hunt : s.lines.southTx ≠ none → s.lines.southRx = .hunt
  slot : ∀ t, s.lines.southTx = some t →
    ∃ tr, s.scan.slot = some tr ∧ tr.node = t.dest ∧ tr.windowBegun = false
  window : ∀ tr, s.scan.slot = some tr → tr.windowBegun = false → s.lines.southTx ≠ none

/-- A mark on the RESPONSE that the north transmitter is sending. -/
def NorthTx.hasMark (m : ReplyMark) : NorthTx → Bool
  | .sending _ mark => mark == m
  | _ => false

/-- How many RESPONSEs, built or in transmission, carry a mark. -/
def State.markCount (s : State) (m : ReplyMark) : Nat :=
  (s.north.built.filter fun r => r.mark == m).length + (if s.lines.northTx.hasMark m then 1 else 0)

/-- R2, R127, R191: a north rate that waits for a RESPONSE waits for exactly one, a rate that waits for
the end of a reception holds the transmitter back, and a pending restart has exactly one DONE on its way
until the warm reset is due. -/
structure State.NorthDiscipline (s : State) : Prop where
  oldRate : s.markCount .endsOldRate =
    (match s.lines.northPending with
     | .awaitingResponse _ => 1
     | _ => 0)
  reception : ∀ r, s.lines.northPending = .awaitingReception r → s.lines.northHold = true
  hold : s.lines.northHold = true → s.lines.northRx = .receiving
  restart : s.markCount .restartDone =
    if s.banks.restartPending = true ∧ s.banks.warmResetDue = false then 1 else 0
  due : s.banks.warmResetDue = true → s.banks.restartPending = true

end Sys2Proof.Machine
end

