-- ==== Sys2Proof/Certificates/Slice0/Obligations.lean ====
section
/-! DEFINITION. What is claimed of the part, one Prop for each claim. -/

open Sys2Proof Sys2Proof.Machine

/-! ### The machine as a whole -/

/-- A step runs exec on the command at the front of the queue, with the queue's rest. -/
def Obligations.StepRunsFrontCommand : Prop :=
  ∀ (c : Instr) (rest : List Instr) (s : State), s.pending = c :: rest →
    step s = exec c { s with pending := rest }

/-- Every command completes: it answers a next state and leaves the queue as it is. -/
def Obligations.EveryCommandCompletes : Prop :=
  ∀ (c : Instr) (s : State), ∃ t, exec c s = .next t ∧ t.pending = s.pending

/-- R118, R132, R175: of the commands that are events of their rows, only those named change a bank's
bytes, the device state, the state of a zone source; a TABLE WRITE leaves the active bank as it is. -/
def Obligations.OnlyNamedCommandsChangeBanksDeviceZoneSources : Prop :=
  ∀ (c : Instr) (s t : State), c.WellFormed → s.OwnAddress → exec c s = .next t →
    (t.banks.bankA ≠ s.banks.bankA ∨ t.banks.bankB ≠ s.banks.bankB →
      (∃ fields, c = .tableWrite fields) ∨ (∃ r, c = .coldReset r) ∨ (∃ h, c = .resetHold h)) ∧
    (∀ fields, c = .tableWrite fields → t.banks.activeBank = s.banks.activeBank) ∧
    (t.control.device ≠ s.control.device →
      c = .activationCheckEnd ∨ c = .purgeTimerExpiry ∨ c = .cycleClose ∨ c = .warmReset ∨
        (∃ r, c = .coldReset r) ∨ (∃ h, c = .resetHold h)) ∧
    (∀ i : Fin 77, i.val < 72 → t.alarm.sources[i].state ≠ s.alarm.sources[i].state →
      c = .cycleClose ∨ (∃ fields, c = .acknowledge fields) ∨ c = .warmReset ∨
        (∃ r, c = .coldReset r) ∨ (∃ h, c = .resetHold h))

/-! ### Invariants that every step keeps -/

/-- The reset state meets every invariant below. -/
def Obligations.ResetMeetsEveryInvariant : Prop :=
  State.reset.BanksInForm ∧ State.reset.BanksChecked ∧ State.reset.QueuesAccounted ∧
    State.reset.SourcesCoherent ∧ State.reset.RelaysFollow ∧ State.reset.DeviceCoherent ∧
    State.reset.UnconfiguredStands ∧ State.reset.DisabledAtReset ∧ State.reset.MeasuredInRange ∧
    State.reset.CountsAndDuties ∧ State.reset.SouthDiscipline ∧ State.reset.NorthDiscipline ∧
    State.reset.OwnAddress

/-- R175, R195. -/
def Obligations.StepKeepsBanksInForm : Prop :=
  ∀ s t : State, s.BanksInForm → step s = .next t → t.BanksInForm

/-- R175: the active bank has passed the activation check. -/
def Obligations.StepKeepsBanksChecked : Prop :=
  ∀ s t : State, s.BanksChecked → step s = .next t → t.BanksChecked

/-- R158, R160 to R162, R165, R170, R172, R176. -/
def Obligations.StepKeepsQueuesAccounted : Prop :=
  ∀ s t : State, s.QueuesAccounted → step s = .next t → t.QueuesAccounted

/-- R131. -/
def Obligations.StepKeepsSourcesCoherent : Prop :=
  ∀ s t : State, s.SourcesCoherent → step s = .next t → t.SourcesCoherent

/-- R146 to R148. -/
def Obligations.StepKeepsRelaysFollow : Prop :=
  ∀ s t : State, s.RelaysFollow → step s = .next t → t.RelaysFollow

/-- R118, R119, R125, R133 to R135, R163. -/
def Obligations.StepKeepsDeviceCoherent : Prop :=
  ∀ s t : State, s.DeviceCoherent → step s = .next t → t.DeviceCoherent

/-- R22, R120. -/
def Obligations.StepKeepsUnconfiguredStands : Prop :=
  ∀ s t : State, s.UnconfiguredStands → step s = .next t → t.UnconfiguredStands

/-- R42, R90, R94. -/
def Obligations.StepKeepsDisabledAtReset : Prop :=
  ∀ s t : State, s.DisabledAtReset → step s = .next t → t.DisabledAtReset

/-- R47, R49, R68, R73, R74. -/
def Obligations.StepKeepsMeasuredInRange : Prop :=
  ∀ s t : State, s.MeasuredInRange → step s = .next t → t.MeasuredInRange

/-- R51, R95, R101, R103, R122. -/
def Obligations.StepKeepsCountsAndDuties : Prop :=
  ∀ s t : State, s.CountsAndDuties → step s = .next t → t.CountsAndDuties

/-- R7, R23, R24, R38. -/
def Obligations.StepKeepsSouthDiscipline : Prop :=
  ∀ s t : State, s.SouthDiscipline → step s = .next t → t.SouthDiscipline

/-- R2, R127, R191. -/
def Obligations.StepKeepsNorthDiscipline : Prop :=
  ∀ s t : State, s.NorthDiscipline → step s = .next t → t.NorthDiscipline

/-! ### Resets -/

/-- R15, R35, R61, R87, R109, R114, R126, R152, R173, R175, R196, R197: the release of the one
input that holds the part is a cold reset, which leaves every field at the value written out here. -/
def Obligations.ColdResetSetsEveryBlock : Prop :=
  ∀ (r : Release) (strap : BitVec 3) (s : State),
    (r = .resetHigh strap ∧ s.hold = { resetLow := true, supplyLow := false }) ∨
      (r = .supplyInRange strap ∧ s.hold = { resetLow := false, supplyLow := true }) →
    exec (.coldReset r) s = .next
    { hold := { resetLow := false, supplyLow := false }
      address := BitVec.ofNat 8 (248 + strap.toNat)
      lines :=
        { southRx := .hunt, northRx := .hunt, southTx := none, northTx := .settling,
          southRate := .b19200, northRate := .b19200, southPending := none, northPending := .none,
          northHold := false }
      scan :=
        { cycle := 0, timer := .stopped, cycleOpen := false, scanPos := none, slot := none,
          interleave := 0, overrun := false }
      store :=
        { channels := Vector.ofFn fun _ =>
            { health := .unknown, value := 0, lastRaw := 0, missCount := 0, recovery := 0,
              fwdValue := 0, fwdHealth := .unknown }
          unclassifiedMark := false }
      converter := []
      zones := Vector.ofFn fun _ =>
        { blind := true, held := 0, ring := [], rate := 0, stored := .normal, effective := .normal,
          spill := false, qGen := 0, qReq := 0, shortfall := false }
      alloc :=
        { fans := Vector.ofFn fun _ =>
            { health := .unknown, failCount := 0, goodCount := 0, lastTach := 0, lastStatus := none,
              allocated := 100, manual := none, commanded := 100, lastSent := none, sinceSent := 0,
              flag := false }
          inhibit := true }
      pwm :=
        { outputs := Vector.ofFn fun _ =>
            { running := { high := 1000, low := 0, period := 1000 }, next := none }
          tach := Vector.ofFn fun _ => 0 }
      alarm :=
        { sources := Vector.ofFn fun i =>
            if i.val = 72 then { state := .raised, condition := true, notice := true }
            else { state := .normal, condition := false, notice := false }
          alarmOn := true
          hornOn := false }
      north :=
        { reports := [], reserved := 0, built := [],
          credits := { alert := 0, response := 0, report := 0 }, silence := .stopped,
          supervisorLost := false }
      relayQueue := []
      banks :=
        { bankA := [], bankB := [], active := none, state := .idle, restartPending := false,
          warmResetDue := false }
      control := { device := .unconfigured, purgeTimer := none, ready := false }
      pending := s.pending }

/-- R126, R197, R198: RESET_N low for 10 µs or a supply below 3.0 V holds the part with its outputs in
the failsafe state, and a shorter low level is ignored outside a supply hold (log 31). While the part is held
only a reset acts (log 13); a release while the other input still holds it ends its own input alone, and a
release of an input that does not hold it changes nothing (log 14). -/
def Obligations.ResetHoldHoldsThePart : Prop :=
  (∀ (h : HoldCause) (s : State),
    (match h with
     | .resetLow us => 10 ≤ us ∨ s.hold.supplyLow = true
     | .supplyAt mv => mv < 3000) →
    ∃ t, exec (.resetHold h) s = .next t ∧ t.held = true ∧
      t.hold = (match h with
        | .resetLow _ => { s.hold with resetLow := true }
        | .supplyAt _ => { s.hold with supplyLow := true }) ∧ t.control.device = .unconfigured ∧
      (∀ k phase, pinPwm t k phase = true) ∧ pinChinh t = false ∧ pinReady t = false ∧
      pinAlarm t = false ∧ pinHorn t = false ∧ pinSlDe t = false ∧ t.pending = s.pending) ∧
  (∀ (us : Nat) (s : State), us < 10 → s.hold.supplyLow = false →
    exec (.resetHold (.resetLow us)) s = .next s) ∧
  (∀ (mv : Nat) (s : State), 3000 ≤ mv → exec (.resetHold (.supplyAt mv)) s = .next s) ∧
  (∀ (c : Instr) (s : State), s.held = true → (∀ r, c ≠ .coldReset r) →
    (∀ h, c ≠ .resetHold h) → exec c s = .next s) ∧
  (∀ (strap : BitVec 3) (s : State),
    (s.hold.supplyLow = true → exec (.coldReset (.resetHigh strap)) s =
      .next { s with hold := { resetLow := false, supplyLow := true } }) ∧
    (s.hold.resetLow = true → exec (.coldReset (.supplyInRange strap)) s =
      .next { s with hold := { resetLow := true, supplyLow := false } }) ∧
    (s.hold.resetLow = false → exec (.coldReset (.resetHigh strap)) s = .next s) ∧
    (s.hold.supplyLow = false → exec (.coldReset (.supplyInRange strap)) s = .next s))

/-- R15, R109, R127, R153, R163, R173, R191: the warm reset that a RESTART's DONE has brought. Both banks,
the active selection and the address stay; with an active bank the part enters PURGE in cycle 1, with
none it is UNCONFIGURED. -/
def Obligations.WarmResetRestartsFromTheActiveBank : Prop :=
  ∀ s : State, s.held = false → s.banks.warmResetDue = true →
    ∃ t, exec .warmReset s = .next t ∧
      t.held = false ∧ t.address = s.address ∧ t.pending = s.pending ∧
      t.store = { channels := Vector.replicate 64 ChannelRec.initial, unclassifiedMark := false } ∧
      t.zones = Vector.replicate 8 ZoneRec.initial ∧
      t.alloc = { fans := Vector.replicate 16 FanRec.initial, inhibit := true } ∧
      t.pwm.tach = Vector.replicate 4 0 ∧
      t.relayQueue = [] ∧
      t.banks = { s.banks with state := .idle, restartPending := false, warmResetDue := false } ∧
      t.north.reports = [] ∧ t.north.reserved = 0 ∧ t.north.built = [] ∧
      t.north.credits = { alert := 0, response := 0, report := 0 } ∧ t.north.supervisorLost = false ∧
      t.lines.southRx = .hunt ∧ t.lines.northRx = .hunt ∧ t.lines.southTx = none ∧
      t.lines.northTx = .settling ∧ t.lines.southPending = none ∧ t.lines.northPending = .none ∧
      t.lines.northHold = false ∧ t.alarm.alarmOn = true ∧ t.relaysFollow ∧
      (s.banks.active ≠ none →
        t.control = { device := .purge, purgeTimer := some s.site.purgeTime, ready := false } ∧
        t.scan =
          { cycle := 1, timer := .running s.site.scanPeriod, cycleOpen := true, scanPos := some 0,
            slot := none, interleave := 0, overrun := false } ∧
        t.converter =
          ((List.finRange 4).filter fun k => (channelOf s.tables (60 + k.val)).kind ≠ .none) ∧
        t.north.silence = s.silenceStarted ∧
        t.lines.southRate = s.site.south ∧ t.lines.northRate = s.site.north ∧
        (∀ k : Fin 4, t.pwm.outputs[k] =
          { running :=
              if (assignedFan s.tables k).isSome then
                { high := s.site.pwmPeriod k, low := 0, period := s.site.pwmPeriod k }
              else { high := 0, low := s.site.pwmPeriod k, period := s.site.pwmPeriod k }
            next := none }) ∧
        (∀ i : Fin 77, t.alarm.sources[i] =
          if i.val = 73 then { state := .raised, condition := true, notice := true }
          else { state := .normal, condition := false, notice := false })) ∧
      (s.banks.active = none →
        t.control = { device := .unconfigured, purgeTimer := none, ready := false } ∧
        t.scan =
          { cycle := 0, timer := .stopped, cycleOpen := false, scanPos := none, slot := none,
            interleave := 0, overrun := false } ∧
        t.converter = [] ∧ t.north.silence = .stopped ∧
        t.lines.southRate = .b19200 ∧ t.lines.northRate = .b19200 ∧
        (∀ k : Fin 4, t.pwm.outputs[k] = PwmOutput.initial) ∧
        (∀ i : Fin 77, t.alarm.sources[i] =
          if i.val = 72 then { state := .raised, condition := true, notice := true }
          else { state := .normal, condition := false, notice := false }))

/-! ### Management requests -/

/-- R12, R161, R163, R164: a north telegram that finds no free reply entry ends its reception and
restarts the silence timer, clearing SUPERVISOR LOST, and does nothing else. The state it leaves is
`State.afterArrival`, which the statements on served telegrams start from. R3, R15: one that comes while the
north receiver is in HUNT is not received, and changes nothing (log 18). -/
def Obligations.ArrivalWithoutEntryRestartsSilenceOnly : Prop :=
  ∀ (c : Instr) (s : State), isNorthArrival c = true →
    (s.lines.northRx = .hunt → exec c s = .next s) ∧
    (s.northOpen → ¬ s.replyFree → ∃ t, exec c s = .next t ∧ t = s.afterArrival ∧
      t = { s with lines := t.lines, north := t.north, alarm := t.alarm } ∧
      t.lines = northReceptionEnded s.lines ∧
      (s.control.device = .unconfigured → t.north = s.north ∧ t.alarm = s.alarm) ∧
      (s.control.device ≠ .unconfigured →
        t.north = { s.north with silence := s.silenceStarted, supervisorLost := false } ∧
        (s.north.supervisorLost = false → t.alarm = s.alarm) ∧
        (s.north.supervisorLost = true →
          t.relaysFollow ∧ ∀ i : Fin 77, t.alarm.sources[i] =
            if i.val = 75 then SourceRec.handed (s.policy.cls i) false s.alarm.sources[i]
            else s.alarm.sources[i])))

/-- R178: a TABLE WRITE that fits its table, with the Bank Manager IDLE, replaces the named records of
the standby bank and is answered DONE. -/
def Obligations.TableWriteReplacesRecords : Prop :=
  ∀ (s : State) (id first count : Byte) (records : List Byte) (start len size : Nat),
    s.BanksInForm → s.northOpen → s.replyFree → s.banks.state = .idle →
    tableLayout id.toNat = some (start, len, size) → 1 ≤ count.toNat →
    first.toNat + count.toNat ≤ size → records.length = count.toNat * len → records.length ≤ 44 →
    ∃ t, exec (.tableWrite (id :: first :: count :: records)) s = .next t ∧
      t = { s.afterArrival.answered s.address 0x01#8 .done [] with banks := t.banks } ∧
      (∀ a, (t.banks.bank s.banks.standbyId).read a =
        if start + len * first.toNat ≤ a ∧ a < start + len * first.toNat + records.length then
          records.getD (a - (start + len * first.toNat)) 0#8
        else (s.banks.bank s.banks.standbyId).read a) ∧
      (∀ other, other ≠ s.banks.standbyId → t.banks.bank other = s.banks.bank other) ∧
      t.banks.active = s.banks.active ∧ t.banks.state = .idle ∧
      t.banks.restartPending = s.banks.restartPending ∧ t.banks.warmResetDue = s.banks.warmResetDue

/-- R177, R178: a TABLE WRITE whose span or length is wrong is answered BAD_REQUEST, a sound one during
an activation BUSY; neither writes anything. -/
def Obligations.TableWriteIsRefused : Prop :=
  ∀ (s : State) (fields : List Byte), s.northOpen → s.replyFree → fields.length ≤ 47 →
    (fields.length < 3 →
      exec (.tableWrite fields) s = .next (s.afterArrival.answered s.address 0x01#8 .badRequest [])) ∧
    (∀ (id first count : Byte) (records : List Byte), fields = id :: first :: count :: records →
      (8 ≤ id.toNat →
        exec (.tableWrite fields) s =
          .next (s.afterArrival.answered s.address 0x01#8 .badRequest [])) ∧
      (∀ start len size, tableLayout id.toNat = some (start, len, size) →
        (count.toNat = 0 ∨ size < first.toNat + count.toNat ∨ records.length ≠ count.toNat * len →
          exec (.tableWrite fields) s =
            .next (s.afterArrival.answered s.address 0x01#8 .badRequest [])) ∧
        (count.toNat ≠ 0 → first.toNat + count.toNat ≤ size → records.length = count.toNat * len →
          s.banks.state ≠ .idle →
          exec (.tableWrite fields) s = .next (s.afterArrival.answered s.address 0x01#8 .busy []))))

/-- R179: a TABLE READ returns the records of the bank its role names, as stored, and refuses a span
outside the table, records that do not fit, the role ACTIVE while no bank is active, any other role. -/
def Obligations.TableReadReturnsRecords : Prop :=
  ∀ (s : State) (role id first count : Byte), s.northOpen → s.replyFree →
    (∀ (start len size : Nat) (bank : BankId),
      tableLayout id.toNat = some (start, len, size) → 1 ≤ count.toNat →
      first.toNat + count.toNat ≤ size → 3 + count.toNat * len ≤ 46 →
      ((role = 0#8 ∧ s.banks.active = some bank) ∨ (role = 1#8 ∧ s.banks.standbyId = bank)) →
      exec (.tableRead [role, id, first, count]) s =
        .next (s.afterArrival.answered s.address 0x02#8 .done
          ([if bank = .a then 1#8 else 2#8, id, first] ++
            (List.range (count.toNat * len)).map fun j =>
              (s.banks.bank bank).read (start + len * first.toNat + j)))) ∧
    ((∀ start len size, tableLayout id.toNat = some (start, len, size) →
        count.toNat = 0 ∨ size < first.toNat + count.toNat ∨ 46 < 3 + count.toNat * len) ∨
      (role = 0#8 ∧ s.banks.active = none) ∨ (role ≠ 0#8 ∧ role ≠ 1#8) →
      exec (.tableRead [role, id, first, count]) s =
        .next (s.afterArrival.answered s.address 0x02#8 .badRequest []))

/-- R177, R182: an ACTIVATE with the Bank Manager IDLE and no restart pending enters CHECKING with the
CRC it carries, high byte first, and keeps its reply entry reserved; otherwise it is BUSY; one whose
length is not two fields is answered BAD_REQUEST. -/
def Obligations.ActivateStartsTheCheck : Prop :=
  ∀ s : State, s.northOpen → s.replyFree →
    (∀ hi lo : Byte, s.banks.state = .idle → s.banks.restartPending = false →
      exec (.activate [hi, lo]) s = .next { s.afterArrival with
        banks := { s.banks with state := .checking (BitVec.ofNat 16 (256 * hi.toNat + lo.toNat)) }
        north := { s.afterArrival.north with reserved := s.north.reserved + 1 } }) ∧
    (∀ hi lo : Byte, s.banks.state ≠ .idle ∨ s.banks.restartPending = true →
      exec (.activate [hi, lo]) s = .next (s.afterArrival.answered s.address 0x03#8 .busy [])) ∧
    (∀ fields : List Byte, fields.length ≠ 2 → fields.length ≤ 47 →
      exec (.activate fields) s = .next (s.afterArrival.answered s.address 0x03#8 .badRequest []))

/-- R142, R143, R147 to R149: an ACKNOWLEDGE by SOURCE or by LEVEL moves each selected RAISED source to
ACKED and each selected RETURNED source to NORMAL, flags those, leaves the conditions and every other
source, evaluates the relays, and is answered DONE with the number of sources it changed; one out of
range is answered BAD_REQUEST. -/
def Obligations.AcknowledgeMovesSelectedSources : Prop :=
  ∀ (s : State) (selector value : Byte), s.northOpen → s.replyFree →
    ((selector = 0#8 ∧ value.toNat ≤ 76) ∨ (selector = 1#8 ∧ value.toNat ≤ 3) →
      ∃ (t : State) (sel : Fin 77 → Bool),
        (∀ i, sel i = true ↔
          (selector = 0#8 ∧ i.val = value.toNat) ∨ (selector = 1#8 ∧ s.policy.level i = value.toNat)) ∧
        exec (.acknowledge [selector, value]) s = .next t ∧
        t = { s.afterArrival.answered s.address 0x04#8 .done
            [BitVec.ofNat 8 ((List.finRange 77).countP fun i =>
              sel i && (s.afterArrival.alarm.sources[i].state == .raised ||
                s.afterArrival.alarm.sources[i].state == .returned))] with alarm := t.alarm } ∧
        (∀ i : Fin 77, t.alarm.sources[i] =
          if sel i = true ∧ s.afterArrival.alarm.sources[i].state = .raised then
            { s.afterArrival.alarm.sources[i] with state := .acked, notice := true }
          else if sel i = true ∧ s.afterArrival.alarm.sources[i].state = .returned then
            { s.afterArrival.alarm.sources[i] with state := .normal, notice := true }
          else s.afterArrival.alarm.sources[i]) ∧
        t.relaysFollow) ∧
    ((selector = 0#8 ∧ 76 < value.toNat) ∨ (selector = 1#8 ∧ 3 < value.toNat) ∨
        (selector ≠ 0#8 ∧ selector ≠ 1#8) →
      exec (.acknowledge [selector, value]) s =
        .next (s.afterArrival.answered s.address 0x04#8 .badRequest []))

/-- R151, R181: STATUS is answered DONE with the 25 bytes of the status record, its own reply entry
counted as taken, and changes nothing else; with fields it is answered BAD_REQUEST. -/
def Obligations.StatusReturnsTheRecord : Prop :=
  ∀ s : State, s.northOpen → s.replyFree →
    (∃ record : List Byte, record.length = 25 ∧
      exec (.status []) s = .next (s.afterArrival.answered s.address 0x05#8 .done record) ∧
      record =
        [match s.control.device with | .unconfigured => 0#8 | .purge => 1#8 | .run => 2#8,
          match s.banks.active with | none => 0#8 | some .a => 1#8 | some .b => 2#8,
          match s.banks.state with | .idle => 0#8 | .checking _ => 1#8 | .swapPending => 2#8,
          BitVec.ofNat 8 (s.scan.cycle / 256), BitVec.ofNat 8 s.scan.cycle] ++
        ((List.finRange 8).map fun z => BitVec.ofNat 8
          (bandCode s.zones[z].effective + (if s.zones[z].blind then 4 else 0) +
            (if s.zones[z].spill then 8 else 0) + (if s.zones[z].shortfall then 16 else 0))) ++
        [if s.alloc.inhibit then 1#8 else 0#8,
          BitVec.ofNat 8 (24 - s.north.reports.length),
          BitVec.ofNat 8 (3 - (s.north.reserved + s.north.built.length)),
          BitVec.ofNat 8 (4 - s.relayQueue.length)] ++
        ([0, 1, 2, 3].flatMap fun l =>
          [BitVec.ofNat 8 ((List.finRange 77).countP fun i =>
              s.policy.level i == l && s.afterArrival.alarm.sources[i].notice),
            BitVec.ofNat 8 ((List.finRange 77).countP fun i =>
              s.policy.level i == l && (s.afterArrival.alarm.sources[i].state == .raised ||
                s.afterArrival.alarm.sources[i].state == .returned))])) ∧
    (∀ fields : List Byte, fields ≠ [] → fields.length ≤ 47 →
      exec (.status fields) s = .next (s.afterArrival.answered s.address 0x05#8 .badRequest []))

/-- R180: the runtime readers return the records asked for, in index order, and change nothing; a span
outside the table, a count of 0, a zone above 7 or more records than fit are answered BAD_REQUEST. -/
def Obligations.RuntimeReadersReturnRecords : Prop :=
  ∀ (s : State) (first count : Byte), s.northOpen → s.replyFree →
    (1 ≤ count.toNat → first.toNat + count.toNat ≤ 64 → count.toNat ≤ 4 →
      exec (.readChannels [first, count]) s =
        .next (s.afterArrival.answered s.address 0x06#8 .done
          ([first, count] ++ (List.range count.toNat).flatMap fun k =>
            (s.store.channels[first.toNat + k]?.map channelBytes).getD []))) ∧
    (count.toNat = 0 ∨ 64 < first.toNat + count.toNat ∨ 4 < count.toNat →
      exec (.readChannels [first, count]) s =
        .next (s.afterArrival.answered s.address 0x06#8 .badRequest [])) ∧
    (∀ z : Fin 8, first.toNat = z.val →
      exec (.readZone [first]) s =
        .next (s.afterArrival.answered s.address 0x07#8 .done (zoneBytes z.val s.zones[z]))) ∧
    (8 ≤ first.toNat →
      exec (.readZone [first]) s =
        .next (s.afterArrival.answered s.address 0x07#8 .badRequest [])) ∧
    (1 ≤ count.toNat → first.toNat + count.toNat ≤ 16 → count.toNat ≤ 3 →
      exec (.readFan [first, count]) s =
        .next (s.afterArrival.answered s.address 0x08#8 .done
          ([first, count] ++ (List.range count.toNat).flatMap fun k =>
            (s.alloc.fans[first.toNat + k]?.map fanBytes).getD []))) ∧
    (count.toNat = 0 ∨ 16 < first.toNat + count.toNat ∨ 3 < count.toNat →
      exec (.readFan [first, count]) s =
        .next (s.afterArrival.answered s.address 0x08#8 .badRequest []))

/-- R189, R191: a RESTART ends an activation in progress with ABORTED, ahead of its own DONE, returns the
Bank Manager to IDLE and sets the restart-pending mark; only the DONE of the RESTART that sets the mark
brings the warm reset. With fields it is answered BAD_REQUEST. -/
def Obligations.RestartAbortsAndAnswers : Prop :=
  ∀ s : State, s.northOpen → s.replyFree →
    exec (.restart []) s = .next { s.afterArrival with
      banks := { s.banks with state := .idle, restartPending := true }
      north := { s.afterArrival.north with
        reserved := if s.banks.state = .idle then s.north.reserved else s.north.reserved - 1
        built := s.north.built ++
          (if s.banks.state = .idle then []
            else [{ source := s.address, echo := 0x03#8, result := .aborted, payload := [],
                    mark := .plain }]) ++
          [{ source := s.address, echo := 0x09#8, result := .done, payload := [],
             mark := if s.banks.restartPending then .plain else .restartDone }] } } ∧
    (∀ fields : List Byte, fields ≠ [] → fields.length ≤ 47 →
      exec (.restart fields) s = .next (s.afterArrival.answered s.address 0x09#8 .badRequest []))

/-- R13, R168, R177: an unknown request code, a DRIVE SET or COMMAND to the own address, a REQUEST to a
field node, a request of a wrong length, a DRIVE SET of speed 101..254 and one of speed 255 that no fan
absorbs are answered BAD_REQUEST, with no other effect. -/
def Obligations.BadRequestsAreAnswered : Prop :=
  ∀ s : State, s.northOpen → s.replyFree →
    (∀ (code : Byte) (fields : List Byte), code.toNat = 0 ∨ 9 < code.toNat → fields.length ≤ 47 →
      exec (.unknownRequest code fields) s =
        .next (s.afterArrival.answered s.address code .badRequest [])) ∧
    (∀ speed : Byte, exec (.dispatchBadRequest (.driveSetToOwn speed)) s =
      .next (s.afterArrival.answered s.address 0x22#8 .badRequest [])) ∧
    (∀ payload : List Byte, payload.length ≤ 48 →
      exec (.dispatchBadRequest (.commandToOwn payload)) s =
        .next (s.afterArrival.answered s.address 0x31#8 .badRequest [])) ∧
    (∀ (node : Byte) (payload : List Byte), 1 ≤ node.toNat → node.toNat ≤ 247 → node ≠ s.address →
      1 ≤ payload.length → payload.length ≤ 48 →
      exec (.dispatchBadRequest (.requestToNode node payload)) s =
        .next (s.afterArrival.answered node 0x51#8 .badRequest [])) ∧
    (∀ fields : List Byte, fields.length ≤ 47 →
      (fields.length ≠ 4 → exec (.tableRead fields) s =
        .next (s.afterArrival.answered s.address 0x02#8 .badRequest [])) ∧
      (fields.length ≠ 2 → exec (.acknowledge fields) s =
          .next (s.afterArrival.answered s.address 0x04#8 .badRequest []) ∧
        exec (.readChannels fields) s =
          .next (s.afterArrival.answered s.address 0x06#8 .badRequest []) ∧
        exec (.readFan fields) s =
          .next (s.afterArrival.answered s.address 0x08#8 .badRequest [])) ∧
      (fields.length ≠ 1 → exec (.readZone fields) s =
        .next (s.afterArrival.answered s.address 0x07#8 .badRequest []))) ∧
    (∀ node speed : Byte, 1 ≤ node.toNat → node.toNat ≤ 247 → node ≠ s.address →
      (100 < speed.toNat ∧ speed.toNat < 255) ∨
        (speed.toNat = 255 ∧ remoteFanOf s.tables node = none) →
      exec (.driveSet node speed) s = .next (s.afterArrival.answered node 0x22#8 .badRequest []))

/-! ### Supervisor telegrams to field nodes -/

/-- R103, R104, R168: a DRIVE SET to the node of an enabled REMOTE fan is absorbed: the setpoint set or
released, the commanded duty recomputed, the drive-set flag set, the answer DONE or CLAMPED. -/
def Obligations.DriveSetIsAbsorbed : Prop :=
  ∀ (s : State) (node speed : Byte) (f : Fin 16), s.northOpen → s.replyFree →
    1 ≤ node.toNat → node.toNat ≤ 247 → node ≠ s.address → speed.toNat ≤ 100 ∨ speed.toNat = 255 →
    remoteFanOf s.tables node = some f →
    exec (.driveSet node speed) s = .next { s.afterArrival.answered node 0x22#8
        (if speed.toNat = 255 ∨ s.alloc.fans[f].allocated ≤ speed.toNat then .done else .clamped) [] with
      alloc := { s.alloc with
        fans := s.alloc.fans.set f
          { s.alloc.fans[f] with
            manual := if speed.toNat = 255 then none else some speed.toNat
            commanded :=
              if s.control.device = .run then
                if speed.toNat = 255 then s.alloc.fans[f].allocated
                else max s.alloc.fans[f].allocated speed.toNat
              else 100
            flag := true } } }

/-- R169 to R171: a candidate that is not absorbed is refused at the first step that refuses, and
otherwise joins the relay queue, answered ACCEPTED when posted and keeping its reservation when
confirmed. -/
def Obligations.CandidateIsScreened : Prop :=
  ∀ (s : State) (c : Instr) (node : Byte) (kind : RelayKind) (payload : List Byte),
    s.northOpen → s.replyFree → 1 ≤ node.toNat → node.toNat ≤ 247 → node ≠ s.address →
    ((c = .command node payload ∧ kind = .command ∧ payload.length ≤ 48) ∨
      (∃ speed : Byte, c = .driveSet node speed ∧ kind = .driveSet ∧ payload = [speed] ∧
        speed.toNat ≤ 100 ∧ remoteFanOf s.tables node = none)) →
    exec c s = .next
      (if s.control.device = .unconfigured then
        s.afterArrival.answered node (if kind = .command then 0x31#8 else 0x22#8) .noRoute []
      else
        match screenWindow s.tables node with
        | none => s.afterArrival.answered node (if kind = .command then 0x31#8 else 0x22#8) .noRoute []
        | some w =>
          if (if kind = .command then w.permitsCommand else w.permitsDriveSet) = false ∨
              (w.gated = true ∧ s.alloc.inhibit = true) then
            s.afterArrival.answered node (if kind = .command then 0x31#8 else 0x22#8) .notPermitted []
          else if 4 ≤ s.relayQueue.length then
            s.afterArrival.answered node (if kind = .command then 0x31#8 else 0x22#8) .busy []
          else if w.mode = .posted then
            { s.afterArrival.answered node (if kind = .command then 0x31#8 else 0x22#8) .accepted [] with
              relayQueue := s.relayQueue ++ [{ node, kind, payload, mode := .posted }] }
          else
            { s.afterArrival with
              relayQueue := s.relayQueue ++ [{ node, kind, payload, mode := .confirmed }]
              north := { s.afterArrival.north with reserved := s.north.reserved + 1 } })

/-! ### South loop -/

/-- R9, R25, R41, R42, R48, R49: a READING that answers the open SCAN POLL ends the transaction; the
channel its window maps it to takes its raw value and the event that its status and its band give. A
channel of kind NONE takes no action. -/
def Obligations.ReadingReachesItsChannel : Prop :=
  ∀ (s : State) (tr : Transaction) (status : Byte) (raw : BitVec 16) (k : Nat) (ch : Fin 64),
    s.southOpen → s.scan.slot = some tr → tr.purpose = .scanPoll → status.toNat ≤ 2 →
    s.classifies .reading tr.node k ch.val → ch.val < 60 →
    exec (.reading 0#8 tr.node status raw) s = .next
      (if (channelOf s.tables ch).kind = .none then s.afterReply
      else
        channelEvent ch (windowOf s.tables k).policy (windowOf s.tables k).deadband
          (if status.toNat = 2 then .fault
          else if status.toNat = 1 then .warmup
          else if (channelOf s.tables ch).rawLow ≤ min raw.toNat 4095 ∧
              min raw.toNat 4095 ≤ (channelOf s.tables ch).rawHigh then
            .valid (min
              (((min raw.toNat 4095 - (channelOf s.tables ch).offset) *
                (channelOf s.tables ch).gain + 2048) / 4096)
              (if (channelOf s.tables ch).kind = .current then 10000 else 1000))
          else .miss)
          { s.store.channels[ch] with lastRaw := min raw.toNat 4095 } s.afterReply)

/-- R50 to R52: the record of a channel after each of the four events, with its entry's miss limit. -/
def Obligations.ChannelRecordFollowsEvents : Prop :=
  ∀ (e : ChannelEntry) (r : ChannelRec) (v : Nat),
    r.takeEvent e (.valid v) =
      (if r.health = .failed then
        if 2 ≤ r.recovery + 1 then { r with value := v, health := .healthy, missCount := 0, recovery := 0 }
        else { r with value := v, recovery := r.recovery + 1 }
      else { r with value := v, health := .healthy, missCount := 0 }) ∧
    r.takeEvent e .miss =
      (if r.health = .failed then { r with recovery := 0 }
      else if r.missCount + 1 = e.missLimit then
        { r with health := .failed, missCount := r.missCount + 1, recovery := 0 }
      else
        { r with missCount := r.missCount + 1
                 health := if r.health = .unknown then .unknown else .suspect }) ∧
    r.takeEvent e .fault = { r with health := .failed, missCount := e.missLimit, recovery := 0 } ∧
    r.takeEvent e .warmup =
      (if r.health = .failed then { r with recovery := 0 }
      else { r with health := .unknown, missCount := 0 })

/-- R57 to R60, R160: what a channel event leaves: the record, and under the window's policy one REPORT at
the newest end of the queue, the oldest leaving when it would hold a 25th; nothing else changes. -/
def Obligations.ReportsFollowThePolicy : Prop :=
  ∀ (ch : Fin 64) (policy : ForwardPolicy) (deadband : Nat) (ev : ChannelEvent) (base : ChannelRec)
    (s : State) (due : Prop) (r : ChannelRec),
    r = base.takeEvent (channelOf s.tables ch) ev →
    (due ↔
      (policy = .all ∧
        ((∃ v, ev = .valid v) ∨ (r.health = .failed ∧ base.health ≠ .failed))) ∨
      (policy = .change ∧
        ((r.health = .failed ∧ base.health ≠ .failed) ∨ r.health ≠ base.fwdHealth ∨
          ((∃ v, ev = .valid v) ∧
            (r.value + deadband ≤ base.fwdValue ∨ base.fwdValue + deadband ≤ r.value))))) →
    (¬ due → channelEvent ch policy deadband ev base s =
      { s with store := { s.store with channels := s.store.channels.set ch r } }) ∧
    (due → channelEvent ch policy deadband ev base s =
      { s with
        store := { s.store with
          channels := s.store.channels.set ch { r with fwdValue := r.value, fwdHealth := r.health } }
        north := { s.north with
          reports :=
            (if s.north.reports.length < 24 then s.north.reports
              else s.north.reports.drop (s.north.reports.length - 23)) ++
            [{ channel := ch, kind := (channelOf s.tables ch).kind, value := r.value,
               health := r.health, cycle := s.scan.cycle }] } })

/-- R25, R41, R43: a READING or a DRIVE STATUS that answers the open transaction and is unclassified ends
it, sets the unclassified mark and makes the UNCLASSIFIED condition hold, and touches no record. -/
def Obligations.UnclassifiedReplySetsTheMark : Prop :=
  ∀ (s : State) (tr : Transaction) (c : Instr), s.southOpen → s.scan.slot = some tr →
    ((∃ status raw, c = .reading 0#8 tr.node status raw ∧ status.toNat ≤ 2 ∧ tr.purpose = .scanPoll ∧
        s.unclassified .reading tr.node 60) ∨
      (∃ running feedback fault, c = .driveStatus 0#8 tr.node running feedback fault ∧
        (tr.purpose = .scanQuery ∨ tr.purpose = .fanDrive) ∧
        s.unclassified .driveStatus tr.node 16)) →
    ∃ t, exec c s = .next t ∧
      t = { s.afterReply with
        store := { s.store with unclassifiedMark := true }
        alarm := t.alarm } ∧
      (∀ i : Fin 77, t.alarm.sources[i] =
        if i.val = 76 then SourceRec.handed (s.policy.cls i) true s.alarm.sources[i]
        else s.alarm.sources[i]) ∧
      t.relaysFollow

/-- R9, R25, R41, R95, R97: a DRIVE STATUS that answers the open SCAN QUERY or FAN DRIVE ends it; the
enabled REMOTE fan its window maps it to keeps the status and takes it as a drive fault, a bad or a good
sample; any other fan is not changed. -/
def Obligations.DriveStatusJudgesItsFan : Prop :=
  ∀ (s : State) (tr : Transaction) (running feedback fault : Byte) (k : Nat) (f : Fin 16),
    s.southOpen → s.scan.slot = some tr → tr.purpose = .scanQuery ∨ tr.purpose = .fanDrive →
    s.classifies .driveStatus tr.node k f.val →
    ∀ r : FanRec,
    r = { s.alloc.fans[f] with
          lastStatus := some
            { running := running != 0#8, feedback := min feedback.toNat 100, faultCode := fault.toNat } } →
    exec (.driveStatus 0#8 tr.node running feedback fault) s = .next
      (if (fanOf s.tables f).enable = true ∧ (fanOf s.tables f).remote = true then
        { s.afterReply with alloc := { s.alloc with
            fans := s.alloc.fans.set f
              (if fault ≠ 0#8 then
                { r with health := .failed, failCount := (fanOf s.tables f).failCycles, goodCount := 0 }
              else if running = 0#8 ∧ 1 ≤ r.commanded then r.afterBad (fanOf s.tables f)
              else r.afterGood (fanOf s.tables f)) } }
      else s.afterReply)

/-- R25, R171, R172: an ANSWER that answers the open relay ends it; a posted relay's is dropped, a
confirmed relay's becomes a RESPONSE DONE with at most its first 46 characters. -/
def Obligations.AnswerEndsTheRelay : Prop :=
  ∀ (s : State) (tr : Transaction) (payload : List Byte), s.southOpen → s.scan.slot = some tr →
    payload.length ≤ 48 →
    (tr.purpose = .relayPosted → exec (.answer 0#8 tr.node payload) s = .next s.afterReply) ∧
    (∀ kind, tr.purpose = .relayConfirmed kind →
      exec (.answer 0#8 tr.node payload) s = .next { s.afterReply with
        north := { s.north with
          reserved := s.north.reserved - 1
          built := s.north.built ++
            [{ source := tr.node, echo := if kind = .command then 0x31#8 else 0x22#8, result := .done,
               payload := payload.take 46, mark := .plain }] } })

/-- R3, R6, R9 to R11: a south telegram that does not answer the open transaction, or a READING of no
known head status, ends its reception and does nothing else; in HUNT its characters are not taken. -/
def Obligations.UnmatchedReplyIsDiscarded : Prop :=
  ∀ (s : State) (c : Instr) (dest source : Byte) (kind : TelegramKind),
    ((∃ status raw, c = .reading dest source status raw ∧ kind = .reading) ∨
      (∃ running feedback fault, c = .driveStatus dest source running feedback fault ∧
        kind = .driveStatus) ∨
      (∃ payload, c = .answer dest source payload ∧ kind = .answer)) →
    (s.southOpen →
      (s.scan.slot = none ∨ dest ≠ 0#8 ∨
        (∃ tr, s.scan.slot = some tr ∧ (source ≠ tr.node ∨ kind ≠ tr.purpose.expects)) ∨
        (∃ status raw, c = .reading dest source status raw ∧ 2 < status.toNat)) →
      exec c s = .next { s with lines := { s.lines with southRx := .hunt } }) ∧
    (s.lines.southRx = .hunt → exec c s = .next s)

/-- R11, R26, R45, R97, R172: the expiry of the open transaction's window ends it missed: a miss for the
channel or a bad sample for the fan its windows map, TIMEOUT for a confirmed relay, nothing for a posted
one; without a running window the expiry has no effect. `receiving` is log 4's. -/
def Obligations.WindowExpiryDeliversTheMiss : Prop :=
  ∀ (s : State) (receiving : Bool), s.held = false →
    (∀ (tr : Transaction) (v : State), s.scan.slot = some tr → tr.windowBegun = true →
      v = { s with
        lines := { s.lines with
          southRx := if receiving = true ∧ s.lines.southRx = .armed then .receiving
            else s.lines.southRx }
        scan := { s.scan with slot := none } } →
      (tr.purpose = .scanPoll →
        (s.unclassified .reading tr.node 60 → exec (.replyWindowExpiry receiving) s = .next v) ∧
        (∀ k (ch : Fin 64), s.classifies .reading tr.node k ch.val → ch.val < 60 →
          exec (.replyWindowExpiry receiving) s = .next
            (if (channelOf s.tables ch).kind = .none then v
            else channelEvent ch (windowOf s.tables k).policy (windowOf s.tables k).deadband .miss
              s.store.channels[ch] v))) ∧
      (tr.purpose = .scanQuery ∨ tr.purpose = .fanDrive →
        (s.unclassified .driveStatus tr.node 16 →
          exec (.replyWindowExpiry receiving) s = .next v) ∧
        (∀ k (f : Fin 16), s.classifies .driveStatus tr.node k f.val →
          exec (.replyWindowExpiry receiving) s = .next
            (if (fanOf s.tables f).enable = true ∧ (fanOf s.tables f).remote = true then
              { v with alloc := { s.alloc with
                  fans := s.alloc.fans.set f (s.alloc.fans[f].afterBad (fanOf s.tables f)) } }
            else v))) ∧
      (tr.purpose = .relayPosted → exec (.replyWindowExpiry receiving) s = .next v) ∧
      (∀ kind, tr.purpose = .relayConfirmed kind →
        exec (.replyWindowExpiry receiving) s = .next { v with
          north := { s.north with
            reserved := s.north.reserved - 1
            built := s.north.built ++
              [{ source := tr.node, echo := if kind = .command then 0x31#8 else 0x22#8,
                 result := .timeout, payload := [], mark := .plain }] } })) ∧
    ((∀ tr, s.scan.slot = some tr → tr.windowBegun = false) →
      exec (.replyWindowExpiry receiving) s = .next s)

/-- R7, R14, R23, R24, R28, R29, R111: with the loop free, the lowest-indexed flagged enabled REMOTE fan is
sent a DRIVE SET with its commanded duty; its flag is cleared, the duty becomes its last sent duty and its
cycles since sent 0. A flag on any other fan is cleared without a transaction (log 11). -/
def Obligations.FanDriveServesTheLowestFlaggedFan : Prop :=
  ∀ s : State, s.southLoopFree →
    (∀ f : Fin 16, s.alloc.fans[f].flag = true →
      (fanOf s.tables f).enable = true ∧ (fanOf s.tables f).remote = true →
      (∀ g : Fin 16, g < f → s.alloc.fans[g].flag = true →
        ¬ ((fanOf s.tables g).enable = true ∧ (fanOf s.tables g).remote = true)) →
      exec .fanDrive s = .next { s with
        lines := { s.lines with
          southTx := some { dest := (fanOf s.tables f).node, source := 0#8, kind := .driveSet,
                            payload := [BitVec.ofNat 8 s.alloc.fans[f].commanded] }
          southRx := .hunt }
        scan := { s.scan with
          slot := some { node := (fanOf s.tables f).node, purpose := .fanDrive,
                         windowMs := s.site.pollTimeout, windowBegun := false } }
        alloc := { s.alloc with
          fans := s.strayFlagsCleared.alloc.fans.set f
            { s.alloc.fans[f] with
              flag := false, lastSent := some s.alloc.fans[f].commanded, sinceSent := 0 } } }) ∧
    (s.noFanFlagged → exec .fanDrive s = .next s.strayFlagsCleared)

/-- R7, R14, R23, R24, R28, R30, R31: with the loop free and no fan to serve, the head of the relay queue
goes when the interleave count has reached the interleave or no scan entry is due; it leaves the queue and
is sent as received, and the count becomes 0. A RELAY_TRANSACTION that is not the arbiter's choice, a fan
being flagged, a due entry going first or the queue being empty, opens nothing; with a fan flagged neither
does a SCAN_TRANSACTION (log 2). -/
def Obligations.RelayTransactionServesTheHead : Prop :=
  ∀ s : State, s.southLoopFree →
    (∀ (e : RelayEntry) (rest : List RelayEntry), s.noFanFlagged →
      s.relayQueue = e :: rest → s.site.interleave ≤ s.scan.interleave ∨ s.scanDone →
      exec .relayTransaction s = .next { s.strayFlagsCleared with
        lines := { s.lines with
          southTx := some { dest := e.node, source := 0#8,
                            kind := if e.kind = .command then .command else .driveSet,
                            payload := e.payload }
          southRx := .hunt }
        scan := { s.scan with
          interleave := 0
          slot := some { node := e.node,
                         purpose := if e.mode = .posted then .relayPosted else .relayConfirmed e.kind,
                         windowMs := s.site.relayTimeout, windowBegun := false } }
        relayQueue := rest }) ∧
    (∀ pos i : Nat, s.scan.interleave < s.site.interleave → s.scan.scanPos = some pos → pos ≤ i →
      s.isDue i → exec .relayTransaction s = .next s) ∧
    (s.relayQueue = [] → exec .relayTransaction s = .next s) ∧
    (¬ s.noFanFlagged → exec .relayTransaction s = .next s ∧ exec .scanTransaction s = .next s)

/-- R7, R14, R16, R17, R23, R24, R28, R31, R32: with the loop free, no fan to serve and no relay going
first, the first due entry from the scan position on is sent its POLL or DRIVE QUERY; the position moves
to the next index and the interleave count rises by 1, to at most 16. With the relay going first by the
interleave count, or no entry due, a SCAN_TRANSACTION opens nothing (log 2). -/
def Obligations.ScanTransactionServesTheDueEntry : Prop :=
  ∀ s : State, s.southLoopFree →
    (∀ pos i : Nat, s.noFanFlagged → s.scan.interleave < s.site.interleave ∨ s.relayQueue = [] →
      s.scan.scanPos = some pos → pos ≤ i → s.isDue i → (∀ j, pos ≤ j → j < i → ¬ s.isDue j) →
      exec .scanTransaction s = .next { s.strayFlagsCleared with
        lines := { s.lines with
          southTx := some { dest := (scanOf s.tables i).node, source := 0#8,
                            kind := if (scanOf s.tables i).request = 0x11#8 then .poll else .driveQuery,
                            payload := [] }
          southRx := .hunt }
        scan := { s.scan with
          interleave := if s.scan.interleave < 16 then s.scan.interleave + 1 else 16
          scanPos := some (i + 1)
          slot := some { node := (scanOf s.tables i).node,
                         purpose :=
                           if (scanOf s.tables i).request = 0x11#8 then .scanPoll else .scanQuery,
                         windowMs := s.site.pollTimeout, windowBegun := false } } }) ∧
    (s.site.interleave ≤ s.scan.interleave → s.relayQueue ≠ [] → exec .scanTransaction s = .next s) ∧
    (s.scanDone → exec .scanTransaction s = .next s)

/-- R2, R7, R24: the end of a south transmission frees the transmitter and begins the open transaction's
window; a pending south rate applies once the slot is IDLE and the line is idle, and not before. -/
def Obligations.SouthLineEventsTakeEffect : Prop :=
  ∀ s : State, s.held = false →
    (∀ (t : Telegram) (tr : Transaction), s.lines.southTx = some t → s.scan.slot = some tr →
      exec .southTransmissionEnd s = .next { s with
        lines := { s.lines with southTx := none }
        scan := { s.scan with slot := some { tr with windowBegun := true } } }) ∧
    (∀ r : BitRate, s.lines.southPending = some r →
      (s.scan.slot = none → s.lines.southTx = none → s.lines.southRx ≠ .receiving →
        exec .southRateChange s = .next { s with
          lines := { s.lines with southRate := r, southPending := none } }) ∧
      (s.scan.slot ≠ none ∨ s.lines.southTx ≠ none ∨ s.lines.southRx = .receiving →
        exec .southRateChange s = .next s))

/-! ### Scan cycle -/

/-- R16 to R18, R21, R54, R134: the expiry of the cycle timer is a cycle start when its cycle has closed;
otherwise it sets the overrun condition, and SCAN OVERRUN holds. -/
def Obligations.CycleTimerExpiryStartsOrOverruns : Prop :=
  ∀ (s : State) (period : Nat), s.held = false → s.scan.timer = .running period →
    (s.scan.cycleOpen = false → s.scan.cycle ≤ 65535 → exec .cycleTimerExpiry s = .next s.started) ∧
    (s.scan.cycleOpen = true →
      ∃ t, exec .cycleTimerExpiry s = .next t ∧
        t = { s with scan := { s.scan with timer := .expired, overrun := true }, alarm := t.alarm } ∧
        (∀ i : Fin 77, t.alarm.sources[i] =
          if i.val = 74 then SourceRec.handed (s.policy.cls i) true s.alarm.sources[i]
          else s.alarm.sources[i]) ∧
        t.relaysFollow)

/-- R48, R49, R55, R57: a conversion delivers an OK reading of the sampled value to its local channel,
judged and corrected like a head's, with no REPORT, and the converter moves on. -/
def Obligations.LocalConversionReachesItsChannel : Prop :=
  ∀ (s : State) (sample : BitVec 12) (k : Fin 4) (rest : List (Fin 4)) (ch : Fin 64),
    s.held = false → s.converter = k :: rest → ch.val = 60 + k.val →
    exec (.localConversionComplete sample) s = .next
      (if (channelOf s.tables ch).kind = .none then { s with converter := rest }
      else
        { s with
          converter := rest
          store := { s.store with
            channels := s.store.channels.set ch
              (ChannelRec.takeEvent (channelOf s.tables ch)
                (if (channelOf s.tables ch).rawLow ≤ sample.toNat ∧
                    sample.toNat ≤ (channelOf s.tables ch).rawHigh then
                  .valid (min
                    (((sample.toNat - (channelOf s.tables ch).offset) *
                      (channelOf s.tables ch).gain + 2048) / 4096)
                    (if (channelOf s.tables ch).kind = .current then 10000 else 1000))
                else .miss)
                { s.store.channels[ch] with lastRaw := sample.toNat }) } })

/-- R67 to R83: what a close leaves in the record of every zone but its shortfall. A disabled zone's
record is not changed. -/
def Obligations.CloseEvaluatesTheZones : Prop :=
  ∀ s : State, s.plainClose → ∃ t, exec .cycleClose s = .next t ∧
    ∀ (z : Fin 8) (e : ZoneEntry) (old new : ZoneRec) (peak : Nat),
      e = zoneOf s.tables z → old = s.zones[z] → new = t.zones[z] →
      peak = (if s.gasChannels z = [] then old.held
        else ((s.gasChannels z).map fun (i : Fin 64) => s.store.channels[i].value).foldl max 0) →
      (e.enable = false → new = old) ∧
      (e.enable = true →
        (new.blind = true ↔ (s.gasChannels z).length < e.minHeads) ∧
        new.held = (if old.held ≤ peak then peak
          else old.held - (old.held - peak + 2 ^ e.decay - 1) / 2 ^ e.decay) ∧
        new.ring = (if old.ring.length < 6 then old.ring else old.ring.drop (old.ring.length - 5)) ++
          [new.held] ∧
        new.rate = (new.held : Int) - ((new.ring.headD 0 : Nat) : Int) ∧
        (∃ candidate : Band, e.entryLevel candidate ≤ new.held ∧
          (∀ b, bandCode candidate < bandCode b → new.held < e.entryLevel b) ∧
          (bandCode old.stored ≤ bandCode candidate → new.stored = candidate) ∧
          (bandCode candidate < bandCode old.stored →
            e.entryLevel new.stored ≤ new.held + e.hysteresis ∧
            bandCode new.stored ≤ bandCode old.stored ∧
            ∀ b, bandCode new.stored < bandCode b → bandCode b ≤ bandCode old.stored →
              new.held + e.hysteresis < e.entryLevel b)) ∧
        new.effective =
          (if new.stored = .normal ∧ e.rateLimit ≠ 0 ∧ (e.rateLimit : Int) ≤ new.rate then .elevated
          else new.stored) ∧
        (new.spill = true ↔ s.tripped z ∨ (old.spill = true ∧
          (s.alarm.sources[zoneSource z 5].state = .raised ∨
            s.alarm.sources[zoneSource z 5].state = .returned))) ∧
        new.qGen = min ((s.currentSum z * e.kq + 9999) / 10000) 65535 ∧
        new.qReq =
          (if new.effective = .danger then 65535
          else max (max new.qGen
              (if new.effective = .normal then e.qN
              else if new.effective = .elevated then e.qE else e.qA))
            (if new.spill = true then e.qS else 0)))

/-- R96, R98 to R101, R103, R106 to R108, R110, R112: what a close leaves in the fan records, the shortfall
of the zones, the PWM outputs, the tach counts and CHARGER INHIBIT. A disabled fan's record is not
changed. -/
def Obligations.CloseWorksTheFans : Prop :=
  ∀ s : State, s.plainClose → s.banks.active ≠ none → ∃ t, exec .cycleClose s = .next t ∧
    (∀ (f : Fin 16) (e : FanEntry) (old new : FanRec) (count : Nat),
      e = fanOf s.tables f → old = s.alloc.fans[f] → new = t.alloc.fans[f] →
      count = (s.pwm.tach[e.output]?).getD 0 →
      (e.enable = false → new = old) ∧
      (e.enable = true →
        new.manual = old.manual ∧ new.lastStatus = old.lastStatus ∧ new.lastSent = old.lastSent ∧
        (e.remote = true →
          new.health = old.health ∧ new.failCount = old.failCount ∧ new.goodCount = old.goodCount ∧
          new.lastTach = old.lastTach ∧ new.sinceSent = min (old.sinceSent + 1) 16 ∧
          (new.flag = true ↔ old.flag = true ∨ old.lastSent ≠ some new.commanded ∨
            e.refreshCycles ≤ new.sinceSent)) ∧
        (e.remote = false →
          new.lastTach = count ∧ new.sinceSent = old.sinceSent ∧ new.flag = old.flag ∧
          (new.health, new.failCount, new.goodCount) =
            (if old.commanded = 0 then (old.health, old.failCount, old.goodCount)
            else if count < e.tachMin then
              ((old.afterBad e).health, (old.afterBad e).failCount, (old.afterBad e).goodCount)
            else
              ((old.afterGood e).health, (old.afterGood e).failCount, (old.afterGood e).goodCount))) ∧
        (∀ z : Fin 8, e.zone = z.val → (zoneOf s.tables z).enable = true →
          new.allocated =
            (if t.zones[z].blind = true ∨ t.zones[z].effective = .danger ∨ t.airflow z = 0 then 100
            else if 100 < (t.zones[z].qReq * 100 + t.airflow z - 1) / t.airflow z then 100
            else max ((t.zones[z].qReq * 100 + t.airflow z - 1) / t.airflow z)
              (zoneOf s.tables z).minDuty)) ∧
        new.commanded =
          (if s.control.device = .run then max new.allocated (old.manual.getD 0) else 100))) ∧
    (∀ z : Fin 8, (zoneOf s.tables z).enable = true →
      (t.zones[z].shortfall = true ↔
        t.airflow z = 0 ∨
        (t.zones[z].blind = false ∧ t.zones[z].effective ≠ .danger ∧
          100 < (t.zones[z].qReq * 100 + t.airflow z - 1) / t.airflow z))) ∧
    t.pwm.tach = Vector.replicate 4 0 ∧
    (∀ k : Fin 4, t.pwm.outputs[k].running = s.pwm.outputs[k].running ∧
      (assignedFan s.tables k = none → t.pwm.outputs[k].next =
        some { high := 0, low := s.site.pwmPeriod k, period := s.site.pwmPeriod k }) ∧
      (∀ f, assignedFan s.tables k = some f → t.pwm.outputs[k].next = some
        { high := (s.site.pwmPeriod k * t.alloc.fans[f].commanded + 50) / 100
          low := s.site.pwmPeriod k - (s.site.pwmPeriod k * t.alloc.fans[f].commanded + 50) / 100
          period := s.site.pwmPeriod k })) ∧
    (t.alloc.inhibit = true ↔ s.control.device ≠ .run ∨ ∃ z : Fin 8, t.zoneInhibits z)

/-- R44, R85, R86, R102, R131, R132, R134, R136: the conditions that a close hands to the sources, and the
relays after it. -/
def Obligations.CloseHandsTheConditions : Prop :=
  ∀ s : State, s.plainClose → ∃ t, exec .cycleClose s = .next t ∧
    (∀ (z : Fin 8) (k : Fin 9) (holds : Bool), (holds = true ↔ t.zoneHolds z k) →
      t.alarm.sources[zoneSource z k] =
        SourceRec.handed (s.policy.cls (zoneSource z k)) holds s.alarm.sources[zoneSource z k]) ∧
    t.alarm.sources[sourceUnconfigured] = s.alarm.sources[sourceUnconfigured] ∧
    t.alarm.sources[sourcePurge] = s.alarm.sources[sourcePurge] ∧
    t.alarm.sources[sourceSupervisorLost] = s.alarm.sources[sourceSupervisorLost] ∧
    t.alarm.sources[sourceOverrun] =
      (match s.scan.timer with
        | .running _ =>
          SourceRec.handed (s.policy.cls sourceOverrun) false s.alarm.sources[sourceOverrun]
        | _ => s.alarm.sources[sourceOverrun]) ∧
    t.alarm.sources[sourceUnclassified] =
      (if s.store.unclassifiedMark = true then s.alarm.sources[sourceUnclassified]
      else SourceRec.handed (s.policy.cls sourceUnclassified) false
        s.alarm.sources[sourceUnclassified]) ∧
    t.relaysFollow

/-- R20, R21, R44, R53: a close ends its cycle, the scan position goes to end and the unclassified mark
is cleared; with its timer running the overrun condition is cleared; after the timer's expiry a cycle start
follows at once. The lines, the queues, the banks, the device state and the channel records are not
touched. The whole state is that of `closeWork`, the close's work, which the statements on a close that also
completes a swap or ends a purge start from. -/
def Obligations.CloseEndsTheCycle : Prop :=
  ∀ s : State, s.plainClose → s.scan.cycle ≤ 65535 → ∃ t, exec .cycleClose s = .next t ∧
    t = { s with
      scan := t.scan, converter := t.converter, zones := t.zones, alloc := t.alloc, pwm := t.pwm
      alarm := t.alarm, store := { s.store with unclassifiedMark := false } } ∧
    (∀ p, s.scan.timer = .running p →
      t.scan = { s.scan with cycleOpen := false, scanPos := none, overrun := false } ∧
      t.converter = []) ∧
    (s.scan.timer = .expired →
      t.scan = s.started.scan ∧ t.converter = s.started.converter) ∧
    t = { closeWork s with scan := t.scan, converter := t.converter }

/-- R2, R33, R62, R88, R107 to R109, R113, R115, R121, R124, R139, R154, R166, R176, R187, R188: a close in
SWAP_PENDING does its own work from the old bank and then swaps. The roles of the banks are exchanged and their bytes kept, the
ACTIVATE is answered DONE, the records whose entries differ in any byte are reset and the others kept,
every PWM pair is rewritten, the relays follow the new policy. The cycle number, the interleave count and a
running timer are kept, and a late close's cycle start uses the new bank. Without a purge of 0 s the
interlock and the sources stand as the close's work left them; a purge of 0 s expires after the swap. -/
def Obligations.CloseCompletesThePendingSwap : Prop :=
  ∀ (s w : State) (old : BankId) (m : Memory) (ends : Prop), s.closeReady →
    s.banks.state = .swapPending → s.banks.active = some old → m = s.banks.standbyBank →
    w = closeWork s → (ends ↔ s.control.device = .purge ∧ s.control.purgeTimer = some 0) →
    ∃ t, exec .cycleClose s = .next t ∧
      t.banks = { s.banks with active := some (if old = .a then .b else .a), state := .idle } ∧
      t.relayQueue = s.relayQueue ∧ t.relaysFollow ∧ t.store.unclassifiedMark = false ∧
      (¬ ends → t.control = s.control ∧ t.alloc.inhibit = w.alloc.inhibit ∧
        t.alarm.sources = w.alarm.sources) ∧
      (ends → t.control = { device := .run, purgeTimer := none, ready := true } ∧
        (t.alloc.inhibit = true ↔ ∃ z : Fin 8, t.zoneInhibits z) ∧
        (∀ i : Fin 77, t.alarm.sources[i] =
          if i.val = 72 ∨ i.val = 73 then
            SourceRec.handed ((Policy.ofBank m).cls i) false w.alarm.sources[i]
          else w.alarm.sources[i])) ∧
      (∀ i : Fin 64, t.store.channels[i] =
        if ∃ j : Fin 16, m.read (124 + 16 * i.val + j) ≠ s.tables.read (124 + 16 * i.val + j) then
          ChannelRec.initial
        else s.store.channels[i]) ∧
      (∀ z : Fin 8, t.zones[z] =
        if ∃ j : Fin 22, m.read (1148 + 22 * z.val + j) ≠ s.tables.read (1148 + 22 * z.val + j) then
          ZoneRec.initial
        else w.zones[z]) ∧
      (∀ f : Fin 16, t.alloc.fans[f] =
        if ∃ j : Fin 12, m.read (1324 + 12 * f.val + j) ≠ s.tables.read (1324 + 12 * f.val + j) then
          FanRec.initial
        else w.alloc.fans[f]) ∧
      t.pwm.tach = Vector.replicate 4 0 ∧
      (∀ k : Fin 4, t.pwm.outputs[k].running = s.pwm.outputs[k].running ∧
        (assignedFan m k = none → t.pwm.outputs[k].next =
          some { high := 0, low := (siteOf m).pwmPeriod k, period := (siteOf m).pwmPeriod k }) ∧
        (∀ f, assignedFan m k = some f → t.pwm.outputs[k].next =
          some (pwmPair t.alloc.fans[f].commanded ((siteOf m).pwmPeriod k)))) ∧
      (∀ p, s.scan.timer = .running p →
        t.scan = { s.scan with cycleOpen := false, scanPos := none, overrun := false } ∧
        t.converter = []) ∧
      (s.scan.timer = .expired → s.scan.cycle ≤ 65535 →
        t.scan = { s.scan with
          cycle := if s.scan.cycle = 65535 then 0 else s.scan.cycle + 1
          timer := .running (siteOf m).scanPeriod
          cycleOpen := true
          scanPos := some 0 } ∧
        t.converter = ((List.finRange 4).filter fun k => (channelOf m (60 + k.val)).kind ≠ .none)) ∧
      t.hold = s.hold ∧ t.address = s.address ∧ t.pending = s.pending ∧
      t.lines.southRx = s.lines.southRx ∧ t.lines.northRx = s.lines.northRx ∧
      t.lines.southTx = s.lines.southTx ∧ t.lines.northHold = s.lines.northHold ∧
      t.lines.southRate = s.lines.southRate ∧
      t.lines.southPending =
        (if s.lines.southPending = none ∧ (siteOf m).south = s.lines.southRate then none
        else some (siteOf m).south) ∧
      t.lines.northRate = s.lines.northRate ∧
      (if s.lines.northPending = .none ∧ (siteOf m).north = s.lines.northRate then
        t.lines.northPending = .none ∧ t.lines.northTx = s.lines.northTx ∧
        t.north.built = s.north.built ++
          [{ source := s.address, echo := 0x03#8, result := .done, payload := [], mark := .plain }]
      else
        t.lines.northPending = .awaitingResponse (siteOf m).north ∧
        t.lines.northTx =
          (match s.lines.northTx with
          | .sending tel .endsOldRate => .sending tel .plain
          | tx => tx) ∧
        t.north.built =
          (s.north.built.map fun r =>
            { r with mark := if r.mark = .endsOldRate then .plain else r.mark }) ++
          [{ source := s.address, echo := 0x03#8, result := .done, payload := [],
             mark := .endsOldRate }]) ∧
      t.north.reserved = s.north.reserved - 1 ∧ t.north.reports = s.north.reports ∧
      t.north.credits = s.north.credits ∧ t.north.supervisorLost = s.north.supervisorLost ∧
      t.north.silence =
        (if s.site.silence = (siteOf m).silence then s.north.silence
        else
          match s.north.silence with
          | .running n => if (siteOf m).silence = 0 then .stopped else .running n
          | .stopped => if (siteOf m).silence = 0 then .stopped else .running (siteOf m).silence
          | .expired => .expired)

/-- R119, R121, R123, R125, R133: the expiry of a purge timer of 1 s or more takes the device from PURGE to
RUN: READY goes on, the PURGE condition clears, the interlock is evaluated from the zone records as they
stand, the commanded duties are kept. A purge of 0 s ends at the first close: its work is done in PURGE as
at any close, with every enabled fan commanded 100, and only then does the device go to RUN. -/
def Obligations.PurgeEndsInRun : Prop :=
  ∀ s : State, s.DeviceCoherent → s.control.device = .purge →
    (∀ n, s.held = false → s.control.purgeTimer = some (n + 1) →
      ∃ t, exec .purgeTimerExpiry s = .next t ∧
        t = { s with
          control := { device := .run, purgeTimer := none, ready := true }
          alloc := { s.alloc with inhibit := t.alloc.inhibit }
          alarm := t.alarm } ∧
        (t.alloc.inhibit = true ↔ ∃ z : Fin 8, s.zoneInhibits z) ∧
        (∀ i : Fin 77, t.alarm.sources[i] =
          if i.val = 73 then SourceRec.handed (s.policy.cls i) false s.alarm.sources[i]
          else s.alarm.sources[i]) ∧
        t.relaysFollow) ∧
    (s.closeReady → s.control.purgeTimer = some 0 → s.banks.state ≠ .swapPending →
      exec .purgeTimerExpiry s = .next s ∧
      ∃ t w, w = closeWork s ∧ exec .cycleClose s = .next t ∧
        t = { w with
          control := { device := .run, purgeTimer := none, ready := true }
          alloc := { w.alloc with inhibit := t.alloc.inhibit }
          alarm := t.alarm, scan := t.scan, converter := t.converter } ∧
        (∀ p, s.scan.timer = .running p →
          t.scan = { s.scan with cycleOpen := false, scanPos := none, overrun := false } ∧
          t.converter = []) ∧
        (s.scan.timer = .expired → s.scan.cycle ≤ 65535 →
          t.scan = s.started.scan ∧ t.converter = s.started.converter) ∧
        (∀ f : Fin 16, (fanOf s.tables f).enable = true → t.alloc.fans[f].commanded = 100) ∧
        (t.alloc.inhibit = true ↔ ∃ z : Fin 8, t.zoneInhibits z) ∧
        (∀ i : Fin 77, t.alarm.sources[i] =
          if i.val = 73 then SourceRec.handed (s.policy.cls i) false w.alarm.sources[i]
          else w.alarm.sources[i]) ∧
        t.relaysFollow)

/-! ### North link -/

/-- R155 to R159: when the transmitter is free, the class chosen is the ALERT class on an immediate notice,
otherwise the waiting class of lowest effective rank, in tie order; its credit becomes 0, every other
waiting class gains 1 up to 7, and a class that does not wait keeps its credit. With no class waiting, or
the transmitter not free, nothing happens. -/
def Obligations.NorthChoiceServesOneClass : Prop :=
  ∀ s : State,
    (∀ c : NorthClass, s.northFreeNow → s.chooses c →
      ∃ t tel mark, exec .northChoice s = .next t ∧ t.lines.northTx = .sending tel mark ∧
        tel.kind = (match c with | .alert => .alert | .response => .response | .report => .report) ∧
        tel.dest = 0#8 ∧
        (∀ d : NorthClass, ∀ k : NorthLink → Nat,
          (k = match d with
            | .alert => fun n => n.credits.alert
            | .response => fun n => n.credits.response
            | .report => fun n => n.credits.report) →
          (d = c → k t.north = 0) ∧
          (d ≠ c → s.waits d → k t.north = min (k s.north + 1) 7) ∧
          (d ≠ c → ¬ s.waits d → k t.north = k s.north))) ∧
    ((∀ c, ¬ s.waits c) ∨ s.lines.northTx ≠ .ready ∨ s.lines.northHold = true →
      exec .northChoice s = .next s)

/-- R14, R19, R144, R145, R155: the telegram of the class chosen: the next notice as an ALERT with its
source's state, level and class and the cycle number of the moment, its flag cleared; the oldest built
RESPONSE with its source; the oldest REPORT. Each leaves its class at that moment. -/
def Obligations.NorthChoiceSendsTheOldestOrNextItem : Prop :=
  ∀ s : State, s.northFreeNow →
    (∀ i : Fin 77, s.chooses .alert → s.isNextNotice i →
      ∃ t, exec .northChoice s = .next t ∧
        t = { s with
          lines := { s.lines with
            northTx := .sending
              { dest := 0#8, source := s.address, kind := .alert,
                payload :=
                  [BitVec.ofNat 8 i.val,
                    if i.val < 72 then BitVec.ofNat 8 (i.val / 9) else 255#8,
                    if i.val < 72 then BitVec.ofNat 8 (i.val % 9) else BitVec.ofNat 8 (i.val - 63),
                    BitVec.ofNat 8 (s.policy.level i),
                    match s.alarm.sources[i].state with
                      | .normal => 0#8 | .raised => 1#8 | .acked => 2#8 | .returned => 3#8,
                    match s.policy.cls i with | .selfClearing => 0#8 | .latching => 1#8,
                    BitVec.ofNat 8 (s.scan.cycle / 256), BitVec.ofNat 8 s.scan.cycle] } .plain }
          alarm := { s.alarm with
            sources := s.alarm.sources.set i { s.alarm.sources[i] with notice := false } }
          north := { s.north with credits := t.north.credits } }) ∧
    (∀ (r : Response) (rest : List Response), s.chooses .response → s.north.built = r :: rest →
      ∃ t, exec .northChoice s = .next t ∧
        t = { s with
          lines := { s.lines with
            northTx := .sending
              { dest := 0#8, source := r.source, kind := .response,
                payload := r.echo :: resultCode r.result :: r.payload } r.mark }
          north := { s.north with built := rest, credits := t.north.credits } }) ∧
    (∀ (r : Report) (rest : List Report), s.chooses .report → s.north.reports = r :: rest →
      ∃ t, exec .northChoice s = .next t ∧
        t = { s with
          lines := { s.lines with
            northTx := .sending
              { dest := 0#8, source := s.address, kind := .report,
                payload :=
                  [BitVec.ofNat 8 r.channel.val,
                    match r.kind with | .none => 0#8 | .gas => 1#8 | .spill => 2#8 | .current => 3#8,
                    BitVec.ofNat 8 (r.value / 256), BitVec.ofNat 8 r.value,
                    match r.health with
                      | .unknown => 0#8 | .healthy => 1#8 | .suspect => 2#8 | .failed => 3#8,
                    BitVec.ofNat 8 (r.cycle / 256), BitVec.ofNat 8 r.cycle] } .plain }
          north := { s.north with reports := rest, credits := t.north.credits } })

/-- R2, R127, R156, R189: the end of a north transmission leaves the idle still to be counted; the
RESPONSE that ends the old rate brings the new one, at once or at the end of a reception under way; the
DONE of the RESTART makes the warm reset due. `receiving` is log 4's. -/
def Obligations.NorthTransmissionEndTakesEffect : Prop :=
  ∀ (s : State) (receiving : Bool) (tel : Telegram) (mark : ReplyMark) (l : Lines), s.held = false →
    s.lines.northTx = .sending tel mark →
    l = { s.lines with
      northTx := .settling
      northRx := if receiving = true ∧ s.lines.northRx = .armed then .receiving else s.lines.northRx } →
    (mark = .plain → exec (.northTransmissionEnd receiving) s = .next { s with lines := l }) ∧
    (mark = .restartDone → exec (.northTransmissionEnd receiving) s =
      .next { s with lines := l, banks := { s.banks with warmResetDue := true } }) ∧
    (∀ r, mark = .endsOldRate → s.lines.northPending = .awaitingResponse r →
      (l.northRx ≠ .receiving → exec (.northTransmissionEnd receiving) s =
        .next { s with lines := { l with northRate := r, northPending := .none } }) ∧
      (l.northRx = .receiving → exec (.northTransmissionEnd receiving) s =
        .next { s with lines := { l with northPending := .awaitingReception r, northHold := true } }))

/-- R105, R135, R162, R164, R165: the expiry of supervisor silence: SUPERVISOR LOST holds, every present
setpoint is dropped with its fan recommanded and flagged, the relay queue is emptied and the reservations
of its confirmed entries freed; an open relay, built RESPONSEs and REPORTs stay. -/
def Obligations.SilenceExpiryDropsSupervisorWork : Prop :=
  ∀ (s : State) (n : Nat), s.held = false → s.north.silence = .running n →
    ∃ t, exec .supervisorSilenceExpiry s = .next t ∧
      t = { s with
        alloc := { s.alloc with fans := t.alloc.fans }
        relayQueue := []
        north := { s.north with
          reserved := s.north.reserved -
            (s.relayQueue.filter fun e => e.mode == .confirmed).length
          silence := .expired
          supervisorLost := true }
        alarm := t.alarm } ∧
      (∀ f : Fin 16, t.alloc.fans[f] =
        if s.alloc.fans[f].manual = none then s.alloc.fans[f]
        else
          { s.alloc.fans[f] with
            manual := none
            commanded := if s.control.device = .run then s.alloc.fans[f].allocated else 100
            flag := true }) ∧
      (∀ i : Fin 77, t.alarm.sources[i] =
        if i.val = 75 then SourceRec.handed (s.policy.cls i) true s.alarm.sources[i]
        else s.alarm.sources[i]) ∧
      t.relaysFollow

/-! ### Activation -/

/-- R183 to R185, R187: the end of the check: a wrong CRC is answered CRC_MISMATCH, otherwise the first
failed check CHECK_FAILED with its number, and the Bank Manager is IDLE again; a passing check in PURGE or
RUN waits for the close. -/
def Obligations.ActivationCheckEnds : Prop :=
  ∀ (s : State) (expected : Crc) (m : Memory), s.held = false →
    s.banks.state = .checking expected → m = s.banks.standbyBank →
    (crc16 (imageOf m) ≠ expected →
      exec .activationCheckEnd s = .next { s with
        banks := { s.banks with state := .idle }
        north := { s.north with
          reserved := s.north.reserved - 1
          built := s.north.built ++
            [{ source := s.address, echo := 0x03#8, result := .crcMismatch, payload := [],
               mark := .plain }] } }) ∧
    (∀ n, crc16 (imageOf m) = expected → 1 ≤ n → n ≤ 10 → (tenChecks m)[n - 1]? = some false →
      (∀ j, j < n - 1 → (tenChecks m)[j]? = some true) →
      exec .activationCheckEnd s = .next { s with
        banks := { s.banks with state := .idle }
        north := { s.north with
          reserved := s.north.reserved - 1
          built := s.north.built ++
            [{ source := s.address, echo := 0x03#8, result := .checkFailed,
               payload := [BitVec.ofNat 8 n], mark := .plain }] } }) ∧
    (crc16 (imageOf m) = expected → (∀ b ∈ tenChecks m, b = true) →
      s.control.device ≠ .unconfigured →
      exec .activationCheckEnd s = .next { s with banks := { s.banks with state := .swapPending } })

/-- R2, R34, R63, R90, R109, R116, R119, R139, R163, R186: a passing check in UNCONFIGURED: Bank A becomes
active at once, the ACTIVATE is answered DONE, the device enters PURGE in cycle 1 under the new bank's
tables and policy, and every record stands at its reset values. -/
def Obligations.FirstActivationEntersPurge : Prop :=
  ∀ (s : State) (expected : Crc) (m : Memory), s.held = false → s.DeviceCoherent →
    s.UnconfiguredStands → s.control.device = .unconfigured → s.banks.state = .checking expected →
    m = s.banks.bankA → crc16 (imageOf m) = expected → (∀ b ∈ tenChecks m, b = true) →
    ∃ t, exec .activationCheckEnd s = .next t ∧
      t.banks = { s.banks with active := some .a, state := .idle } ∧
      t.control = { device := .purge, purgeTimer := some (siteOf m).purgeTime, ready := false } ∧
      t.scan =
        { cycle := 1, timer := .running (siteOf m).scanPeriod, cycleOpen := true, scanPos := some 0,
          slot := none, interleave := 0, overrun := false } ∧
      t.converter = ((List.finRange 4).filter fun k => (channelOf m (60 + k.val)).kind ≠ .none) ∧
      t.store = { s.store with channels := Vector.replicate 64 ChannelRec.initial } ∧
      t.zones = Vector.replicate 8 ZoneRec.initial ∧
      t.alloc = { fans := Vector.replicate 16 FanRec.initial, inhibit := true } ∧
      t.pwm.tach = Vector.replicate 4 0 ∧
      (∀ k : Fin 4, t.pwm.outputs[k].running = s.pwm.outputs[k].running ∧
        t.pwm.outputs[k].next = some
          (if (assignedFan m k).isSome then
            { high := (siteOf m).pwmPeriod k, low := 0, period := (siteOf m).pwmPeriod k }
          else { high := 0, low := (siteOf m).pwmPeriod k, period := (siteOf m).pwmPeriod k })) ∧
      t.lines.southRate = .b19200 ∧
      t.lines.southPending =
        (if (siteOf m).south = .b19200 then none else some (siteOf m).south) ∧
      t.lines.northRate = .b19200 ∧
      t.lines.northPending =
        (if (siteOf m).north = .b19200 then .none else .awaitingResponse (siteOf m).north) ∧
      t.north.reserved = s.north.reserved - 1 ∧
      (t.north.built.getLast? = some
        { source := s.address, echo := 0x03#8, result := .done, payload := [],
          mark := if (siteOf m).north = .b19200 then .plain else .endsOldRate }) ∧
      t.north.silence =
        (if (siteOf m).silence = 0 then .stopped else .running (siteOf m).silence) ∧
      t.relayQueue = [] ∧
      (∀ i : Fin 77, t.alarm.sources[i] =
        if i.val = 72 then SourceRec.handed ((Policy.ofBank m).cls i) false s.alarm.sources[i]
        else if i.val = 73 then SourceRec.handed ((Policy.ofBank m).cls i) true s.alarm.sources[i]
        else s.alarm.sources[i]) ∧
      t.policy = Policy.ofBank m ∧ t.relaysFollow

/-! ### Pins and lines -/

/-- R98, R107: a tach pulse raises its count by 1, to at most 65535; at a period's end a waiting pair
becomes the running pair and the slot empty, and with an empty slot the pair runs on. -/
def Obligations.PulsesAndPeriodsTakeEffect : Prop :=
  ∀ (s : State) (k : Fin 4), s.held = false →
    (s.pwm.tach[k] ≤ 65535 → exec (.tachPulse k) s = .next { s with
      pwm := { s.pwm with
        tach := s.pwm.tach.set k (if s.pwm.tach[k] = 65535 then 65535 else s.pwm.tach[k] + 1) } }) ∧
    (∀ p, s.pwm.outputs[k].next = some p → exec (.pwmPeriodEnd k) s = .next { s with
      pwm := { s.pwm with outputs := s.pwm.outputs.set k { running := p, next := none } } }) ∧
    (s.pwm.outputs[k].next = none → exec (.pwmPeriodEnd k) s = .next s)

/-- R3, R4, R6, R7, R9, R10, R12, R156: two idle character times arm a receiver in HUNT, abandon a
telegram in reception and ready the north transmitter; while the part transmits south its receiver stays
in HUNT. A framing error, a length of 49 or more, a character other than the flag while ARMED, and a whole
telegram that is discarded, one of an unknown kind code among them, end the reception and do nothing else; a
receiver in HUNT takes none of them. `receiving` is log 4's. -/
def Obligations.LineEventsMoveTheReceivers : Prop :=
  ∀ s : State, s.held = false →
    (∀ receiving : Bool,
      (s.lines.southTx ≠ none → exec (.lineIdle (.south receiving)) s = .next s) ∧
      (s.lines.southTx = none → exec (.lineIdle (.south receiving)) s = .next { s with lines := { s.lines with
        southRx := if s.lines.southRx.noted receiving = .receiving then .hunt else .armed } }) ∧
      (s.lines.northRx.noted receiving ≠ .receiving → exec (.lineIdle (.northReceive receiving)) s =
        .next { s with lines := { s.lines with northRx := .armed } }) ∧
      (s.lines.northRx.noted receiving = .receiving → exec (.lineIdle (.northReceive receiving)) s =
        .next { s with lines := northReceptionEnded s.lines })) ∧
    (s.lines.northTx = .settling → exec (.lineIdle .northTransmit) s =
      .next { s with lines := { s.lines with northTx := .ready } }) ∧
    (∀ (line : Line) (cause : AbandonCause) (chars : List Byte) (ended : State) (rx : RxState),
      rx = (match line with | .south => s.lines.southRx | .north => s.lines.northRx) →
      ended = (match line with
        | .south => { s with lines := { s.lines with southRx := .hunt } }
        | .north => { s with lines := northReceptionEnded s.lines }) →
      (rx = .hunt → exec (.telegramAbandoned line cause) s = .next s ∧
        exec (.discardedTelegram line chars) s = .next s) ∧
      ((rx ≠ .hunt ∧ cause = .framingError) ∨
          (rx ≠ .hunt ∧ ∃ n : Byte, cause = .badLength n ∧ 49 ≤ n.toNat) ∨
          (rx = .armed ∧ ∃ c : Byte, cause = .nonFlag c ∧ c ≠ 0xC3#8) →
        exec (.telegramAbandoned line cause) s = .next ended) ∧
      (rx ≠ .hunt →
        ((∃ (t : Telegram) (crc : Crc), t.payload.length ≤ 48 ∧ crc ≠ crc16 t.covered ∧
            chars = [0xC3#8] ++ t.covered ++
              [BitVec.ofNat 8 (crc.toNat / 256), BitVec.ofNat 8 crc.toNat]) ∨
          (∃ (dest source code : Byte) (payload covered : List Byte), payload.length ≤ 48 ∧
            (∀ k : TelegramKind, kindCode k ≠ code) ∧
            covered = [dest, source, code, BitVec.ofNat 8 payload.length] ++ payload ∧
            chars = [0xC3#8] ++ covered ++ [BitVec.ofNat 8 ((crc16 covered).toNat / 256),
              BitVec.ofNat 8 (crc16 covered).toNat]) ∨
          (∃ t : Telegram, t.payload.length ≤ 48 ∧ chars = t.frame ∧ passesR9 line t = false) ∨
          (∃ t : Telegram, t.payload.length ≤ 48 ∧ chars = t.frame ∧ line = .north ∧
            (t.source ≠ 0#8 ∨
              (t.dest ≠ s.address ∧ (t.dest.toNat = 0 ∨ 247 < t.dest.toNat)))) ∨
          (∃ t : Telegram, t.payload.length ≤ 48 ∧ chars = t.frame ∧ line = .south ∧
            (s.scan.slot = none ∨ t.dest ≠ 0#8 ∨
              ∃ tr, s.scan.slot = some tr ∧
                (t.source ≠ tr.node ∨ t.kind ≠ tr.purpose.expects)))) →
        exec (.discardedTelegram line chars) s = .next ended))

/-! ### The own address -/

/-- R8, R196: the own north address stays one of 248 to 255. -/
def Obligations.StepKeepsOwnAddress : Prop :=
  ∀ s t : State, s.OwnAddress → step s = .next t → t.OwnAddress
end

