-- ==== Sys2Proof/Laws/State.lean ====
section
/-! SUPPORT. For each operation that is one update of the state: the fields it leaves, and what it puts
into the field it writes, all true by definition. -/

namespace Sys2Proof.Machine

/-- Two states with the same fields are the same. -/
@[ext] theorem State.ext {s t : State} (hold : s.hold = t.hold)
    (address : s.address = t.address)
    (lines : s.lines = t.lines)
    (scan : s.scan = t.scan)
    (store : s.store = t.store)
    (converter : s.converter = t.converter)
    (zones : s.zones = t.zones)
    (alloc : s.alloc = t.alloc)
    (pwm : s.pwm = t.pwm)
    (alarm : s.alarm = t.alarm)
    (north : s.north = t.north)
    (relayQueue : s.relayQueue = t.relayQueue)
    (banks : s.banks = t.banks)
    (control : s.control = t.control)
    (pending : s.pending = t.pending) : s = t := by
  cases s; cases t; simp only [State.mk.injEq]; exact ⟨hold, address, lines, scan, store, converter, zones, alloc, pwm, alarm, north, relayQueue, banks, control, pending⟩

/-! ### evalRelays -/

@[simp] theorem evalRelays_hold (s : State) : (evalRelays s).hold = s.hold := by
  simp only [evalRelays]
@[simp] theorem evalRelays_address (s : State) : (evalRelays s).address = s.address := by
  simp only [evalRelays]
@[simp] theorem evalRelays_lines (s : State) : (evalRelays s).lines = s.lines := by
  simp only [evalRelays]
@[simp] theorem evalRelays_scan (s : State) : (evalRelays s).scan = s.scan := by
  simp only [evalRelays]
@[simp] theorem evalRelays_store (s : State) : (evalRelays s).store = s.store := by
  simp only [evalRelays]
@[simp] theorem evalRelays_converter (s : State) : (evalRelays s).converter = s.converter := by
  simp only [evalRelays]
@[simp] theorem evalRelays_zones (s : State) : (evalRelays s).zones = s.zones := by
  simp only [evalRelays]
@[simp] theorem evalRelays_alloc (s : State) : (evalRelays s).alloc = s.alloc := by
  simp only [evalRelays]
@[simp] theorem evalRelays_pwm (s : State) : (evalRelays s).pwm = s.pwm := by
  simp only [evalRelays]
@[simp] theorem evalRelays_alarm (s : State) :
    (evalRelays s).alarm = { s.alarm with alarmOn := alarmRelayOf s.alarm.sources, hornOn := hornRelayOf s.policy s.alarm.sources } := by
  simp only [evalRelays]
@[simp] theorem evalRelays_north (s : State) : (evalRelays s).north = s.north := by
  simp only [evalRelays]
@[simp] theorem evalRelays_relayQueue (s : State) : (evalRelays s).relayQueue = s.relayQueue := by
  simp only [evalRelays]
@[simp] theorem evalRelays_banks (s : State) : (evalRelays s).banks = s.banks := by
  simp only [evalRelays]
@[simp] theorem evalRelays_control (s : State) : (evalRelays s).control = s.control := by
  simp only [evalRelays]
@[simp] theorem evalRelays_pending (s : State) : (evalRelays s).pending = s.pending := by
  simp only [evalRelays]
@[simp] theorem evalRelays_tables (s : State) : (evalRelays s).tables = s.tables := by
  simp only [State.tables, evalRelays_banks]
@[simp] theorem evalRelays_site (s : State) : (evalRelays s).site = s.site := by
  simp only [State.site, evalRelays_tables]
@[simp] theorem evalRelays_policy (s : State) : (evalRelays s).policy = s.policy := by
  simp only [State.policy, evalRelays_banks]

/-! ### handCondition -/

@[simp] theorem handCondition_hold (i : Fin 77) (holds : Bool) (s : State) : (handCondition i holds s).hold = s.hold := by
  simp only [handCondition]
@[simp] theorem handCondition_address (i : Fin 77) (holds : Bool) (s : State) : (handCondition i holds s).address = s.address := by
  simp only [handCondition]
@[simp] theorem handCondition_lines (i : Fin 77) (holds : Bool) (s : State) : (handCondition i holds s).lines = s.lines := by
  simp only [handCondition]
@[simp] theorem handCondition_scan (i : Fin 77) (holds : Bool) (s : State) : (handCondition i holds s).scan = s.scan := by
  simp only [handCondition]
@[simp] theorem handCondition_store (i : Fin 77) (holds : Bool) (s : State) : (handCondition i holds s).store = s.store := by
  simp only [handCondition]
@[simp] theorem handCondition_converter (i : Fin 77) (holds : Bool) (s : State) : (handCondition i holds s).converter = s.converter := by
  simp only [handCondition]
@[simp] theorem handCondition_zones (i : Fin 77) (holds : Bool) (s : State) : (handCondition i holds s).zones = s.zones := by
  simp only [handCondition]
@[simp] theorem handCondition_alloc (i : Fin 77) (holds : Bool) (s : State) : (handCondition i holds s).alloc = s.alloc := by
  simp only [handCondition]
@[simp] theorem handCondition_pwm (i : Fin 77) (holds : Bool) (s : State) : (handCondition i holds s).pwm = s.pwm := by
  simp only [handCondition]
@[simp] theorem handCondition_alarm (i : Fin 77) (holds : Bool) (s : State) :
    (handCondition i holds s).alarm = { s.alarm with sources := s.alarm.sources.set i (SourceRec.take (s.policy.cls i) holds s.alarm.sources[i]) } := by
  simp only [handCondition]
@[simp] theorem handCondition_north (i : Fin 77) (holds : Bool) (s : State) : (handCondition i holds s).north = s.north := by
  simp only [handCondition]
@[simp] theorem handCondition_relayQueue (i : Fin 77) (holds : Bool) (s : State) : (handCondition i holds s).relayQueue = s.relayQueue := by
  simp only [handCondition]
@[simp] theorem handCondition_banks (i : Fin 77) (holds : Bool) (s : State) : (handCondition i holds s).banks = s.banks := by
  simp only [handCondition]
@[simp] theorem handCondition_control (i : Fin 77) (holds : Bool) (s : State) : (handCondition i holds s).control = s.control := by
  simp only [handCondition]
@[simp] theorem handCondition_pending (i : Fin 77) (holds : Bool) (s : State) : (handCondition i holds s).pending = s.pending := by
  simp only [handCondition]
@[simp] theorem handCondition_tables (i : Fin 77) (holds : Bool) (s : State) : (handCondition i holds s).tables = s.tables := by
  simp only [State.tables, handCondition_banks]
@[simp] theorem handCondition_site (i : Fin 77) (holds : Bool) (s : State) : (handCondition i holds s).site = s.site := by
  simp only [State.site, handCondition_tables]
@[simp] theorem handCondition_policy (i : Fin 77) (holds : Bool) (s : State) : (handCondition i holds s).policy = s.policy := by
  simp only [State.policy, handCondition_banks]

/-! ### handZoneConditions -/

@[simp] theorem handZoneConditions_hold (conds : Fin 77 → Bool) (s : State) : (handZoneConditions conds s).hold = s.hold := by
  simp only [handZoneConditions]
@[simp] theorem handZoneConditions_address (conds : Fin 77 → Bool) (s : State) : (handZoneConditions conds s).address = s.address := by
  simp only [handZoneConditions]
@[simp] theorem handZoneConditions_lines (conds : Fin 77 → Bool) (s : State) : (handZoneConditions conds s).lines = s.lines := by
  simp only [handZoneConditions]
@[simp] theorem handZoneConditions_scan (conds : Fin 77 → Bool) (s : State) : (handZoneConditions conds s).scan = s.scan := by
  simp only [handZoneConditions]
@[simp] theorem handZoneConditions_store (conds : Fin 77 → Bool) (s : State) : (handZoneConditions conds s).store = s.store := by
  simp only [handZoneConditions]
@[simp] theorem handZoneConditions_converter (conds : Fin 77 → Bool) (s : State) : (handZoneConditions conds s).converter = s.converter := by
  simp only [handZoneConditions]
@[simp] theorem handZoneConditions_zones (conds : Fin 77 → Bool) (s : State) : (handZoneConditions conds s).zones = s.zones := by
  simp only [handZoneConditions]
@[simp] theorem handZoneConditions_alloc (conds : Fin 77 → Bool) (s : State) : (handZoneConditions conds s).alloc = s.alloc := by
  simp only [handZoneConditions]
@[simp] theorem handZoneConditions_pwm (conds : Fin 77 → Bool) (s : State) : (handZoneConditions conds s).pwm = s.pwm := by
  simp only [handZoneConditions]
@[simp] theorem handZoneConditions_north (conds : Fin 77 → Bool) (s : State) : (handZoneConditions conds s).north = s.north := by
  simp only [handZoneConditions]
@[simp] theorem handZoneConditions_relayQueue (conds : Fin 77 → Bool) (s : State) : (handZoneConditions conds s).relayQueue = s.relayQueue := by
  simp only [handZoneConditions]
@[simp] theorem handZoneConditions_banks (conds : Fin 77 → Bool) (s : State) : (handZoneConditions conds s).banks = s.banks := by
  simp only [handZoneConditions]
@[simp] theorem handZoneConditions_control (conds : Fin 77 → Bool) (s : State) : (handZoneConditions conds s).control = s.control := by
  simp only [handZoneConditions]
@[simp] theorem handZoneConditions_pending (conds : Fin 77 → Bool) (s : State) : (handZoneConditions conds s).pending = s.pending := by
  simp only [handZoneConditions]
@[simp] theorem handZoneConditions_tables (conds : Fin 77 → Bool) (s : State) : (handZoneConditions conds s).tables = s.tables := by
  simp only [State.tables, handZoneConditions_banks]
@[simp] theorem handZoneConditions_site (conds : Fin 77 → Bool) (s : State) : (handZoneConditions conds s).site = s.site := by
  simp only [State.site, handZoneConditions_tables]
@[simp] theorem handZoneConditions_policy (conds : Fin 77 → Bool) (s : State) : (handZoneConditions conds s).policy = s.policy := by
  simp only [State.policy, handZoneConditions_banks]

/-! ### acknowledgeSources -/

@[simp] theorem acknowledgeSources_hold (sel : Fin 77 → Bool) (s : State) : (acknowledgeSources sel s).hold = s.hold := by
  simp only [acknowledgeSources]
@[simp] theorem acknowledgeSources_address (sel : Fin 77 → Bool) (s : State) : (acknowledgeSources sel s).address = s.address := by
  simp only [acknowledgeSources]
@[simp] theorem acknowledgeSources_lines (sel : Fin 77 → Bool) (s : State) : (acknowledgeSources sel s).lines = s.lines := by
  simp only [acknowledgeSources]
@[simp] theorem acknowledgeSources_scan (sel : Fin 77 → Bool) (s : State) : (acknowledgeSources sel s).scan = s.scan := by
  simp only [acknowledgeSources]
@[simp] theorem acknowledgeSources_store (sel : Fin 77 → Bool) (s : State) : (acknowledgeSources sel s).store = s.store := by
  simp only [acknowledgeSources]
@[simp] theorem acknowledgeSources_converter (sel : Fin 77 → Bool) (s : State) : (acknowledgeSources sel s).converter = s.converter := by
  simp only [acknowledgeSources]
@[simp] theorem acknowledgeSources_zones (sel : Fin 77 → Bool) (s : State) : (acknowledgeSources sel s).zones = s.zones := by
  simp only [acknowledgeSources]
@[simp] theorem acknowledgeSources_alloc (sel : Fin 77 → Bool) (s : State) : (acknowledgeSources sel s).alloc = s.alloc := by
  simp only [acknowledgeSources]
@[simp] theorem acknowledgeSources_pwm (sel : Fin 77 → Bool) (s : State) : (acknowledgeSources sel s).pwm = s.pwm := by
  simp only [acknowledgeSources]
@[simp] theorem acknowledgeSources_north (sel : Fin 77 → Bool) (s : State) : (acknowledgeSources sel s).north = s.north := by
  simp only [acknowledgeSources]
@[simp] theorem acknowledgeSources_relayQueue (sel : Fin 77 → Bool) (s : State) : (acknowledgeSources sel s).relayQueue = s.relayQueue := by
  simp only [acknowledgeSources]
@[simp] theorem acknowledgeSources_banks (sel : Fin 77 → Bool) (s : State) : (acknowledgeSources sel s).banks = s.banks := by
  simp only [acknowledgeSources]
@[simp] theorem acknowledgeSources_control (sel : Fin 77 → Bool) (s : State) : (acknowledgeSources sel s).control = s.control := by
  simp only [acknowledgeSources]
@[simp] theorem acknowledgeSources_pending (sel : Fin 77 → Bool) (s : State) : (acknowledgeSources sel s).pending = s.pending := by
  simp only [acknowledgeSources]
@[simp] theorem acknowledgeSources_tables (sel : Fin 77 → Bool) (s : State) : (acknowledgeSources sel s).tables = s.tables := by
  simp only [State.tables, acknowledgeSources_banks]
@[simp] theorem acknowledgeSources_site (sel : Fin 77 → Bool) (s : State) : (acknowledgeSources sel s).site = s.site := by
  simp only [State.site, acknowledgeSources_tables]
@[simp] theorem acknowledgeSources_policy (sel : Fin 77 → Bool) (s : State) : (acknowledgeSources sel s).policy = s.policy := by
  simp only [State.policy, acknowledgeSources_banks]

/-! ### clearNotice -/

@[simp] theorem clearNotice_hold (i : Fin 77) (s : State) : (clearNotice i s).hold = s.hold := by
  simp only [clearNotice]
@[simp] theorem clearNotice_address (i : Fin 77) (s : State) : (clearNotice i s).address = s.address := by
  simp only [clearNotice]
@[simp] theorem clearNotice_lines (i : Fin 77) (s : State) : (clearNotice i s).lines = s.lines := by
  simp only [clearNotice]
@[simp] theorem clearNotice_scan (i : Fin 77) (s : State) : (clearNotice i s).scan = s.scan := by
  simp only [clearNotice]
@[simp] theorem clearNotice_store (i : Fin 77) (s : State) : (clearNotice i s).store = s.store := by
  simp only [clearNotice]
@[simp] theorem clearNotice_converter (i : Fin 77) (s : State) : (clearNotice i s).converter = s.converter := by
  simp only [clearNotice]
@[simp] theorem clearNotice_zones (i : Fin 77) (s : State) : (clearNotice i s).zones = s.zones := by
  simp only [clearNotice]
@[simp] theorem clearNotice_alloc (i : Fin 77) (s : State) : (clearNotice i s).alloc = s.alloc := by
  simp only [clearNotice]
@[simp] theorem clearNotice_pwm (i : Fin 77) (s : State) : (clearNotice i s).pwm = s.pwm := by
  simp only [clearNotice]
@[simp] theorem clearNotice_north (i : Fin 77) (s : State) : (clearNotice i s).north = s.north := by
  simp only [clearNotice]
@[simp] theorem clearNotice_relayQueue (i : Fin 77) (s : State) : (clearNotice i s).relayQueue = s.relayQueue := by
  simp only [clearNotice]
@[simp] theorem clearNotice_banks (i : Fin 77) (s : State) : (clearNotice i s).banks = s.banks := by
  simp only [clearNotice]
@[simp] theorem clearNotice_control (i : Fin 77) (s : State) : (clearNotice i s).control = s.control := by
  simp only [clearNotice]
@[simp] theorem clearNotice_pending (i : Fin 77) (s : State) : (clearNotice i s).pending = s.pending := by
  simp only [clearNotice]
@[simp] theorem clearNotice_tables (i : Fin 77) (s : State) : (clearNotice i s).tables = s.tables := by
  simp only [State.tables, clearNotice_banks]
@[simp] theorem clearNotice_site (i : Fin 77) (s : State) : (clearNotice i s).site = s.site := by
  simp only [State.site, clearNotice_tables]
@[simp] theorem clearNotice_policy (i : Fin 77) (s : State) : (clearNotice i s).policy = s.policy := by
  simp only [State.policy, clearNotice_banks]

/-! ### reserveReply -/

@[simp] theorem reserveReply_hold (s : State) : (reserveReply s).hold = s.hold := by
  simp only [reserveReply]
@[simp] theorem reserveReply_address (s : State) : (reserveReply s).address = s.address := by
  simp only [reserveReply]
@[simp] theorem reserveReply_lines (s : State) : (reserveReply s).lines = s.lines := by
  simp only [reserveReply]
@[simp] theorem reserveReply_scan (s : State) : (reserveReply s).scan = s.scan := by
  simp only [reserveReply]
@[simp] theorem reserveReply_store (s : State) : (reserveReply s).store = s.store := by
  simp only [reserveReply]
@[simp] theorem reserveReply_converter (s : State) : (reserveReply s).converter = s.converter := by
  simp only [reserveReply]
@[simp] theorem reserveReply_zones (s : State) : (reserveReply s).zones = s.zones := by
  simp only [reserveReply]
@[simp] theorem reserveReply_alloc (s : State) : (reserveReply s).alloc = s.alloc := by
  simp only [reserveReply]
@[simp] theorem reserveReply_pwm (s : State) : (reserveReply s).pwm = s.pwm := by
  simp only [reserveReply]
@[simp] theorem reserveReply_alarm (s : State) : (reserveReply s).alarm = s.alarm := by
  simp only [reserveReply]
@[simp] theorem reserveReply_north (s : State) :
    (reserveReply s).north = { s.north with reserved := s.north.reserved + 1 } := by
  simp only [reserveReply]
@[simp] theorem reserveReply_relayQueue (s : State) : (reserveReply s).relayQueue = s.relayQueue := by
  simp only [reserveReply]
@[simp] theorem reserveReply_banks (s : State) : (reserveReply s).banks = s.banks := by
  simp only [reserveReply]
@[simp] theorem reserveReply_control (s : State) : (reserveReply s).control = s.control := by
  simp only [reserveReply]
@[simp] theorem reserveReply_pending (s : State) : (reserveReply s).pending = s.pending := by
  simp only [reserveReply]
@[simp] theorem reserveReply_tables (s : State) : (reserveReply s).tables = s.tables := by
  simp only [State.tables, reserveReply_banks]
@[simp] theorem reserveReply_site (s : State) : (reserveReply s).site = s.site := by
  simp only [State.site, reserveReply_tables]
@[simp] theorem reserveReply_policy (s : State) : (reserveReply s).policy = s.policy := by
  simp only [State.policy, reserveReply_banks]

/-! ### buildResponse -/

@[simp] theorem buildResponse_hold (r : Response) (s : State) : (buildResponse r s).hold = s.hold := by
  simp only [buildResponse]
@[simp] theorem buildResponse_address (r : Response) (s : State) : (buildResponse r s).address = s.address := by
  simp only [buildResponse]
@[simp] theorem buildResponse_lines (r : Response) (s : State) : (buildResponse r s).lines = s.lines := by
  simp only [buildResponse]
@[simp] theorem buildResponse_scan (r : Response) (s : State) : (buildResponse r s).scan = s.scan := by
  simp only [buildResponse]
@[simp] theorem buildResponse_store (r : Response) (s : State) : (buildResponse r s).store = s.store := by
  simp only [buildResponse]
@[simp] theorem buildResponse_converter (r : Response) (s : State) : (buildResponse r s).converter = s.converter := by
  simp only [buildResponse]
@[simp] theorem buildResponse_zones (r : Response) (s : State) : (buildResponse r s).zones = s.zones := by
  simp only [buildResponse]
@[simp] theorem buildResponse_alloc (r : Response) (s : State) : (buildResponse r s).alloc = s.alloc := by
  simp only [buildResponse]
@[simp] theorem buildResponse_pwm (r : Response) (s : State) : (buildResponse r s).pwm = s.pwm := by
  simp only [buildResponse]
@[simp] theorem buildResponse_alarm (r : Response) (s : State) : (buildResponse r s).alarm = s.alarm := by
  simp only [buildResponse]
@[simp] theorem buildResponse_north (r : Response) (s : State) :
    (buildResponse r s).north = { s.north with reserved := s.north.reserved - 1, built := s.north.built ++ [r] } := by
  simp only [buildResponse]
@[simp] theorem buildResponse_relayQueue (r : Response) (s : State) : (buildResponse r s).relayQueue = s.relayQueue := by
  simp only [buildResponse]
@[simp] theorem buildResponse_banks (r : Response) (s : State) : (buildResponse r s).banks = s.banks := by
  simp only [buildResponse]
@[simp] theorem buildResponse_control (r : Response) (s : State) : (buildResponse r s).control = s.control := by
  simp only [buildResponse]
@[simp] theorem buildResponse_pending (r : Response) (s : State) : (buildResponse r s).pending = s.pending := by
  simp only [buildResponse]
@[simp] theorem buildResponse_tables (r : Response) (s : State) : (buildResponse r s).tables = s.tables := by
  simp only [State.tables, buildResponse_banks]
@[simp] theorem buildResponse_site (r : Response) (s : State) : (buildResponse r s).site = s.site := by
  simp only [State.site, buildResponse_tables]
@[simp] theorem buildResponse_policy (r : Response) (s : State) : (buildResponse r s).policy = s.policy := by
  simp only [State.policy, buildResponse_banks]

/-! ### queueReport -/

@[simp] theorem queueReport_hold (r : Report) (s : State) : (queueReport r s).hold = s.hold := by
  simp only [queueReport]
@[simp] theorem queueReport_address (r : Report) (s : State) : (queueReport r s).address = s.address := by
  simp only [queueReport]
@[simp] theorem queueReport_lines (r : Report) (s : State) : (queueReport r s).lines = s.lines := by
  simp only [queueReport]
@[simp] theorem queueReport_scan (r : Report) (s : State) : (queueReport r s).scan = s.scan := by
  simp only [queueReport]
@[simp] theorem queueReport_store (r : Report) (s : State) : (queueReport r s).store = s.store := by
  simp only [queueReport]
@[simp] theorem queueReport_converter (r : Report) (s : State) : (queueReport r s).converter = s.converter := by
  simp only [queueReport]
@[simp] theorem queueReport_zones (r : Report) (s : State) : (queueReport r s).zones = s.zones := by
  simp only [queueReport]
@[simp] theorem queueReport_alloc (r : Report) (s : State) : (queueReport r s).alloc = s.alloc := by
  simp only [queueReport]
@[simp] theorem queueReport_pwm (r : Report) (s : State) : (queueReport r s).pwm = s.pwm := by
  simp only [queueReport]
@[simp] theorem queueReport_alarm (r : Report) (s : State) : (queueReport r s).alarm = s.alarm := by
  simp only [queueReport]
@[simp] theorem queueReport_north (r : Report) (s : State) :
    (queueReport r s).north = { s.north with reports := pushReport s.north.reports r } := by
  simp only [queueReport]
@[simp] theorem queueReport_relayQueue (r : Report) (s : State) : (queueReport r s).relayQueue = s.relayQueue := by
  simp only [queueReport]
@[simp] theorem queueReport_banks (r : Report) (s : State) : (queueReport r s).banks = s.banks := by
  simp only [queueReport]
@[simp] theorem queueReport_control (r : Report) (s : State) : (queueReport r s).control = s.control := by
  simp only [queueReport]
@[simp] theorem queueReport_pending (r : Report) (s : State) : (queueReport r s).pending = s.pending := by
  simp only [queueReport]
@[simp] theorem queueReport_tables (r : Report) (s : State) : (queueReport r s).tables = s.tables := by
  simp only [State.tables, queueReport_banks]
@[simp] theorem queueReport_site (r : Report) (s : State) : (queueReport r s).site = s.site := by
  simp only [State.site, queueReport_tables]
@[simp] theorem queueReport_policy (r : Report) (s : State) : (queueReport r s).policy = s.policy := by
  simp only [State.policy, queueReport_banks]

/-! ### setChannel -/

@[simp] theorem setChannel_hold (ch : Fin 64) (r : ChannelRec) (s : State) : (setChannel ch r s).hold = s.hold := by
  simp only [setChannel]
@[simp] theorem setChannel_address (ch : Fin 64) (r : ChannelRec) (s : State) : (setChannel ch r s).address = s.address := by
  simp only [setChannel]
@[simp] theorem setChannel_lines (ch : Fin 64) (r : ChannelRec) (s : State) : (setChannel ch r s).lines = s.lines := by
  simp only [setChannel]
@[simp] theorem setChannel_scan (ch : Fin 64) (r : ChannelRec) (s : State) : (setChannel ch r s).scan = s.scan := by
  simp only [setChannel]
@[simp] theorem setChannel_store (ch : Fin 64) (r : ChannelRec) (s : State) :
    (setChannel ch r s).store = { s.store with channels := s.store.channels.set ch r } := by
  simp only [setChannel]
@[simp] theorem setChannel_converter (ch : Fin 64) (r : ChannelRec) (s : State) : (setChannel ch r s).converter = s.converter := by
  simp only [setChannel]
@[simp] theorem setChannel_zones (ch : Fin 64) (r : ChannelRec) (s : State) : (setChannel ch r s).zones = s.zones := by
  simp only [setChannel]
@[simp] theorem setChannel_alloc (ch : Fin 64) (r : ChannelRec) (s : State) : (setChannel ch r s).alloc = s.alloc := by
  simp only [setChannel]
@[simp] theorem setChannel_pwm (ch : Fin 64) (r : ChannelRec) (s : State) : (setChannel ch r s).pwm = s.pwm := by
  simp only [setChannel]
@[simp] theorem setChannel_alarm (ch : Fin 64) (r : ChannelRec) (s : State) : (setChannel ch r s).alarm = s.alarm := by
  simp only [setChannel]
@[simp] theorem setChannel_north (ch : Fin 64) (r : ChannelRec) (s : State) : (setChannel ch r s).north = s.north := by
  simp only [setChannel]
@[simp] theorem setChannel_relayQueue (ch : Fin 64) (r : ChannelRec) (s : State) : (setChannel ch r s).relayQueue = s.relayQueue := by
  simp only [setChannel]
@[simp] theorem setChannel_banks (ch : Fin 64) (r : ChannelRec) (s : State) : (setChannel ch r s).banks = s.banks := by
  simp only [setChannel]
@[simp] theorem setChannel_control (ch : Fin 64) (r : ChannelRec) (s : State) : (setChannel ch r s).control = s.control := by
  simp only [setChannel]
@[simp] theorem setChannel_pending (ch : Fin 64) (r : ChannelRec) (s : State) : (setChannel ch r s).pending = s.pending := by
  simp only [setChannel]
@[simp] theorem setChannel_tables (ch : Fin 64) (r : ChannelRec) (s : State) : (setChannel ch r s).tables = s.tables := by
  simp only [State.tables, setChannel_banks]
@[simp] theorem setChannel_site (ch : Fin 64) (r : ChannelRec) (s : State) : (setChannel ch r s).site = s.site := by
  simp only [State.site, setChannel_tables]
@[simp] theorem setChannel_policy (ch : Fin 64) (r : ChannelRec) (s : State) : (setChannel ch r s).policy = s.policy := by
  simp only [State.policy, setChannel_banks]

/-! ### setFan -/

@[simp] theorem setFan_hold (f : Fin 16) (r : FanRec) (s : State) : (setFan f r s).hold = s.hold := by
  simp only [setFan]
@[simp] theorem setFan_address (f : Fin 16) (r : FanRec) (s : State) : (setFan f r s).address = s.address := by
  simp only [setFan]
@[simp] theorem setFan_lines (f : Fin 16) (r : FanRec) (s : State) : (setFan f r s).lines = s.lines := by
  simp only [setFan]
@[simp] theorem setFan_scan (f : Fin 16) (r : FanRec) (s : State) : (setFan f r s).scan = s.scan := by
  simp only [setFan]
@[simp] theorem setFan_store (f : Fin 16) (r : FanRec) (s : State) : (setFan f r s).store = s.store := by
  simp only [setFan]
@[simp] theorem setFan_converter (f : Fin 16) (r : FanRec) (s : State) : (setFan f r s).converter = s.converter := by
  simp only [setFan]
@[simp] theorem setFan_zones (f : Fin 16) (r : FanRec) (s : State) : (setFan f r s).zones = s.zones := by
  simp only [setFan]
@[simp] theorem setFan_alloc (f : Fin 16) (r : FanRec) (s : State) :
    (setFan f r s).alloc = { s.alloc with fans := s.alloc.fans.set f r } := by
  simp only [setFan]
@[simp] theorem setFan_pwm (f : Fin 16) (r : FanRec) (s : State) : (setFan f r s).pwm = s.pwm := by
  simp only [setFan]
@[simp] theorem setFan_alarm (f : Fin 16) (r : FanRec) (s : State) : (setFan f r s).alarm = s.alarm := by
  simp only [setFan]
@[simp] theorem setFan_north (f : Fin 16) (r : FanRec) (s : State) : (setFan f r s).north = s.north := by
  simp only [setFan]
@[simp] theorem setFan_relayQueue (f : Fin 16) (r : FanRec) (s : State) : (setFan f r s).relayQueue = s.relayQueue := by
  simp only [setFan]
@[simp] theorem setFan_banks (f : Fin 16) (r : FanRec) (s : State) : (setFan f r s).banks = s.banks := by
  simp only [setFan]
@[simp] theorem setFan_control (f : Fin 16) (r : FanRec) (s : State) : (setFan f r s).control = s.control := by
  simp only [setFan]
@[simp] theorem setFan_pending (f : Fin 16) (r : FanRec) (s : State) : (setFan f r s).pending = s.pending := by
  simp only [setFan]
@[simp] theorem setFan_tables (f : Fin 16) (r : FanRec) (s : State) : (setFan f r s).tables = s.tables := by
  simp only [State.tables, setFan_banks]
@[simp] theorem setFan_site (f : Fin 16) (r : FanRec) (s : State) : (setFan f r s).site = s.site := by
  simp only [State.site, setFan_tables]
@[simp] theorem setFan_policy (f : Fin 16) (r : FanRec) (s : State) : (setFan f r s).policy = s.policy := by
  simp only [State.policy, setFan_banks]

/-! ### evalInterlock -/

@[simp] theorem evalInterlock_hold (s : State) : (evalInterlock s).hold = s.hold := by
  simp only [evalInterlock]
@[simp] theorem evalInterlock_address (s : State) : (evalInterlock s).address = s.address := by
  simp only [evalInterlock]
@[simp] theorem evalInterlock_lines (s : State) : (evalInterlock s).lines = s.lines := by
  simp only [evalInterlock]
@[simp] theorem evalInterlock_scan (s : State) : (evalInterlock s).scan = s.scan := by
  simp only [evalInterlock]
@[simp] theorem evalInterlock_store (s : State) : (evalInterlock s).store = s.store := by
  simp only [evalInterlock]
@[simp] theorem evalInterlock_converter (s : State) : (evalInterlock s).converter = s.converter := by
  simp only [evalInterlock]
@[simp] theorem evalInterlock_zones (s : State) : (evalInterlock s).zones = s.zones := by
  simp only [evalInterlock]
@[simp] theorem evalInterlock_alloc (s : State) :
    (evalInterlock s).alloc = { s.alloc with inhibit := interlockOf s.control.device s.tables s.zones } := by
  simp only [evalInterlock]
@[simp] theorem evalInterlock_pwm (s : State) : (evalInterlock s).pwm = s.pwm := by
  simp only [evalInterlock]
@[simp] theorem evalInterlock_alarm (s : State) : (evalInterlock s).alarm = s.alarm := by
  simp only [evalInterlock]
@[simp] theorem evalInterlock_north (s : State) : (evalInterlock s).north = s.north := by
  simp only [evalInterlock]
@[simp] theorem evalInterlock_relayQueue (s : State) : (evalInterlock s).relayQueue = s.relayQueue := by
  simp only [evalInterlock]
@[simp] theorem evalInterlock_banks (s : State) : (evalInterlock s).banks = s.banks := by
  simp only [evalInterlock]
@[simp] theorem evalInterlock_control (s : State) : (evalInterlock s).control = s.control := by
  simp only [evalInterlock]
@[simp] theorem evalInterlock_pending (s : State) : (evalInterlock s).pending = s.pending := by
  simp only [evalInterlock]
@[simp] theorem evalInterlock_tables (s : State) : (evalInterlock s).tables = s.tables := by
  simp only [State.tables, evalInterlock_banks]
@[simp] theorem evalInterlock_site (s : State) : (evalInterlock s).site = s.site := by
  simp only [State.site, evalInterlock_tables]
@[simp] theorem evalInterlock_policy (s : State) : (evalInterlock s).policy = s.policy := by
  simp only [State.policy, evalInterlock_banks]

/-! ### writeOutputs -/

@[simp] theorem writeOutputs_hold (s : State) : (writeOutputs s).hold = s.hold := by
  simp only [writeOutputs]
@[simp] theorem writeOutputs_address (s : State) : (writeOutputs s).address = s.address := by
  simp only [writeOutputs]
@[simp] theorem writeOutputs_lines (s : State) : (writeOutputs s).lines = s.lines := by
  simp only [writeOutputs]
@[simp] theorem writeOutputs_scan (s : State) : (writeOutputs s).scan = s.scan := by
  simp only [writeOutputs]
@[simp] theorem writeOutputs_store (s : State) : (writeOutputs s).store = s.store := by
  simp only [writeOutputs]
@[simp] theorem writeOutputs_converter (s : State) : (writeOutputs s).converter = s.converter := by
  simp only [writeOutputs]
@[simp] theorem writeOutputs_zones (s : State) : (writeOutputs s).zones = s.zones := by
  simp only [writeOutputs]
@[simp] theorem writeOutputs_alloc (s : State) : (writeOutputs s).alloc = s.alloc := by
  simp only [writeOutputs]
@[simp] theorem writeOutputs_alarm (s : State) : (writeOutputs s).alarm = s.alarm := by
  simp only [writeOutputs]
@[simp] theorem writeOutputs_north (s : State) : (writeOutputs s).north = s.north := by
  simp only [writeOutputs]
@[simp] theorem writeOutputs_relayQueue (s : State) : (writeOutputs s).relayQueue = s.relayQueue := by
  simp only [writeOutputs]
@[simp] theorem writeOutputs_banks (s : State) : (writeOutputs s).banks = s.banks := by
  simp only [writeOutputs]
@[simp] theorem writeOutputs_control (s : State) : (writeOutputs s).control = s.control := by
  simp only [writeOutputs]
@[simp] theorem writeOutputs_pending (s : State) : (writeOutputs s).pending = s.pending := by
  simp only [writeOutputs]
@[simp] theorem writeOutputs_tables (s : State) : (writeOutputs s).tables = s.tables := by
  simp only [State.tables, writeOutputs_banks]
@[simp] theorem writeOutputs_site (s : State) : (writeOutputs s).site = s.site := by
  simp only [State.site, writeOutputs_tables]
@[simp] theorem writeOutputs_policy (s : State) : (writeOutputs s).policy = s.policy := by
  simp only [State.policy, writeOutputs_banks]

/-! ### setOutputs -/

@[simp] theorem setOutputs_hold (s : State) : (setOutputs s).hold = s.hold := by
  simp only [setOutputs]
@[simp] theorem setOutputs_address (s : State) : (setOutputs s).address = s.address := by
  simp only [setOutputs]
@[simp] theorem setOutputs_lines (s : State) : (setOutputs s).lines = s.lines := by
  simp only [setOutputs]
@[simp] theorem setOutputs_scan (s : State) : (setOutputs s).scan = s.scan := by
  simp only [setOutputs]
@[simp] theorem setOutputs_store (s : State) : (setOutputs s).store = s.store := by
  simp only [setOutputs]
@[simp] theorem setOutputs_converter (s : State) : (setOutputs s).converter = s.converter := by
  simp only [setOutputs]
@[simp] theorem setOutputs_zones (s : State) : (setOutputs s).zones = s.zones := by
  simp only [setOutputs]
@[simp] theorem setOutputs_alloc (s : State) : (setOutputs s).alloc = s.alloc := by
  simp only [setOutputs]
@[simp] theorem setOutputs_alarm (s : State) : (setOutputs s).alarm = s.alarm := by
  simp only [setOutputs]
@[simp] theorem setOutputs_north (s : State) : (setOutputs s).north = s.north := by
  simp only [setOutputs]
@[simp] theorem setOutputs_relayQueue (s : State) : (setOutputs s).relayQueue = s.relayQueue := by
  simp only [setOutputs]
@[simp] theorem setOutputs_banks (s : State) : (setOutputs s).banks = s.banks := by
  simp only [setOutputs]
@[simp] theorem setOutputs_control (s : State) : (setOutputs s).control = s.control := by
  simp only [setOutputs]
@[simp] theorem setOutputs_pending (s : State) : (setOutputs s).pending = s.pending := by
  simp only [setOutputs]
@[simp] theorem setOutputs_tables (s : State) : (setOutputs s).tables = s.tables := by
  simp only [State.tables, setOutputs_banks]
@[simp] theorem setOutputs_site (s : State) : (setOutputs s).site = s.site := by
  simp only [State.site, setOutputs_tables]
@[simp] theorem setOutputs_policy (s : State) : (setOutputs s).policy = s.policy := by
  simp only [State.policy, setOutputs_banks]

/-! ### clearTach -/

@[simp] theorem clearTach_hold (s : State) : (clearTach s).hold = s.hold := by
  simp only [clearTach]
@[simp] theorem clearTach_address (s : State) : (clearTach s).address = s.address := by
  simp only [clearTach]
@[simp] theorem clearTach_lines (s : State) : (clearTach s).lines = s.lines := by
  simp only [clearTach]
@[simp] theorem clearTach_scan (s : State) : (clearTach s).scan = s.scan := by
  simp only [clearTach]
@[simp] theorem clearTach_store (s : State) : (clearTach s).store = s.store := by
  simp only [clearTach]
@[simp] theorem clearTach_converter (s : State) : (clearTach s).converter = s.converter := by
  simp only [clearTach]
@[simp] theorem clearTach_zones (s : State) : (clearTach s).zones = s.zones := by
  simp only [clearTach]
@[simp] theorem clearTach_alloc (s : State) : (clearTach s).alloc = s.alloc := by
  simp only [clearTach]
@[simp] theorem clearTach_pwm (s : State) :
    (clearTach s).pwm = { s.pwm with tach := Vector.replicate 4 0 } := by
  simp only [clearTach]
@[simp] theorem clearTach_alarm (s : State) : (clearTach s).alarm = s.alarm := by
  simp only [clearTach]
@[simp] theorem clearTach_north (s : State) : (clearTach s).north = s.north := by
  simp only [clearTach]
@[simp] theorem clearTach_relayQueue (s : State) : (clearTach s).relayQueue = s.relayQueue := by
  simp only [clearTach]
@[simp] theorem clearTach_banks (s : State) : (clearTach s).banks = s.banks := by
  simp only [clearTach]
@[simp] theorem clearTach_control (s : State) : (clearTach s).control = s.control := by
  simp only [clearTach]
@[simp] theorem clearTach_pending (s : State) : (clearTach s).pending = s.pending := by
  simp only [clearTach]
@[simp] theorem clearTach_tables (s : State) : (clearTach s).tables = s.tables := by
  simp only [State.tables, clearTach_banks]
@[simp] theorem clearTach_site (s : State) : (clearTach s).site = s.site := by
  simp only [State.site, clearTach_tables]
@[simp] theorem clearTach_policy (s : State) : (clearTach s).policy = s.policy := by
  simp only [State.policy, clearTach_banks]

/-! ### setSilence -/

@[simp] theorem setSilence_hold (t : SilenceTimer) (s : State) : (setSilence t s).hold = s.hold := by
  simp only [setSilence]
@[simp] theorem setSilence_address (t : SilenceTimer) (s : State) : (setSilence t s).address = s.address := by
  simp only [setSilence]
@[simp] theorem setSilence_lines (t : SilenceTimer) (s : State) : (setSilence t s).lines = s.lines := by
  simp only [setSilence]
@[simp] theorem setSilence_scan (t : SilenceTimer) (s : State) : (setSilence t s).scan = s.scan := by
  simp only [setSilence]
@[simp] theorem setSilence_store (t : SilenceTimer) (s : State) : (setSilence t s).store = s.store := by
  simp only [setSilence]
@[simp] theorem setSilence_converter (t : SilenceTimer) (s : State) : (setSilence t s).converter = s.converter := by
  simp only [setSilence]
@[simp] theorem setSilence_zones (t : SilenceTimer) (s : State) : (setSilence t s).zones = s.zones := by
  simp only [setSilence]
@[simp] theorem setSilence_alloc (t : SilenceTimer) (s : State) : (setSilence t s).alloc = s.alloc := by
  simp only [setSilence]
@[simp] theorem setSilence_pwm (t : SilenceTimer) (s : State) : (setSilence t s).pwm = s.pwm := by
  simp only [setSilence]
@[simp] theorem setSilence_alarm (t : SilenceTimer) (s : State) : (setSilence t s).alarm = s.alarm := by
  simp only [setSilence]
@[simp] theorem setSilence_north (t : SilenceTimer) (s : State) :
    (setSilence t s).north = { s.north with silence := t } := by
  simp only [setSilence]
@[simp] theorem setSilence_relayQueue (t : SilenceTimer) (s : State) : (setSilence t s).relayQueue = s.relayQueue := by
  simp only [setSilence]
@[simp] theorem setSilence_banks (t : SilenceTimer) (s : State) : (setSilence t s).banks = s.banks := by
  simp only [setSilence]
@[simp] theorem setSilence_control (t : SilenceTimer) (s : State) : (setSilence t s).control = s.control := by
  simp only [setSilence]
@[simp] theorem setSilence_pending (t : SilenceTimer) (s : State) : (setSilence t s).pending = s.pending := by
  simp only [setSilence]
@[simp] theorem setSilence_tables (t : SilenceTimer) (s : State) : (setSilence t s).tables = s.tables := by
  simp only [State.tables, setSilence_banks]
@[simp] theorem setSilence_site (t : SilenceTimer) (s : State) : (setSilence t s).site = s.site := by
  simp only [State.site, setSilence_tables]
@[simp] theorem setSilence_policy (t : SilenceTimer) (s : State) : (setSilence t s).policy = s.policy := by
  simp only [State.policy, setSilence_banks]

/-! ### cycleStart -/

@[simp] theorem cycleStart_hold (s : State) : (cycleStart s).hold = s.hold := by
  simp only [cycleStart]
@[simp] theorem cycleStart_address (s : State) : (cycleStart s).address = s.address := by
  simp only [cycleStart]
@[simp] theorem cycleStart_lines (s : State) : (cycleStart s).lines = s.lines := by
  simp only [cycleStart]
@[simp] theorem cycleStart_scan (s : State) :
    (cycleStart s).scan = { s.scan with cycle := (s.scan.cycle + 1) % 65536, timer := .running s.site.scanPeriod, cycleOpen := true, scanPos := some 0 } := by
  simp only [cycleStart]
@[simp] theorem cycleStart_store (s : State) : (cycleStart s).store = s.store := by
  simp only [cycleStart]
@[simp] theorem cycleStart_converter (s : State) :
    (cycleStart s).converter = conversionList s.tables := by
  simp only [cycleStart]
@[simp] theorem cycleStart_zones (s : State) : (cycleStart s).zones = s.zones := by
  simp only [cycleStart]
@[simp] theorem cycleStart_alloc (s : State) : (cycleStart s).alloc = s.alloc := by
  simp only [cycleStart]
@[simp] theorem cycleStart_pwm (s : State) : (cycleStart s).pwm = s.pwm := by
  simp only [cycleStart]
@[simp] theorem cycleStart_alarm (s : State) : (cycleStart s).alarm = s.alarm := by
  simp only [cycleStart]
@[simp] theorem cycleStart_north (s : State) : (cycleStart s).north = s.north := by
  simp only [cycleStart]
@[simp] theorem cycleStart_relayQueue (s : State) : (cycleStart s).relayQueue = s.relayQueue := by
  simp only [cycleStart]
@[simp] theorem cycleStart_banks (s : State) : (cycleStart s).banks = s.banks := by
  simp only [cycleStart]
@[simp] theorem cycleStart_control (s : State) : (cycleStart s).control = s.control := by
  simp only [cycleStart]
@[simp] theorem cycleStart_pending (s : State) : (cycleStart s).pending = s.pending := by
  simp only [cycleStart]
@[simp] theorem cycleStart_tables (s : State) : (cycleStart s).tables = s.tables := by
  simp only [State.tables, cycleStart_banks]
@[simp] theorem cycleStart_site (s : State) : (cycleStart s).site = s.site := by
  simp only [State.site, cycleStart_tables]
@[simp] theorem cycleStart_policy (s : State) : (cycleStart s).policy = s.policy := by
  simp only [State.policy, cycleStart_banks]

/-! ### setPurgeTimer -/

@[simp] theorem setPurgeTimer_hold (t : Option Nat) (s : State) : (setPurgeTimer t s).hold = s.hold := by
  simp only [setPurgeTimer]
@[simp] theorem setPurgeTimer_address (t : Option Nat) (s : State) : (setPurgeTimer t s).address = s.address := by
  simp only [setPurgeTimer]
@[simp] theorem setPurgeTimer_lines (t : Option Nat) (s : State) : (setPurgeTimer t s).lines = s.lines := by
  simp only [setPurgeTimer]
@[simp] theorem setPurgeTimer_scan (t : Option Nat) (s : State) : (setPurgeTimer t s).scan = s.scan := by
  simp only [setPurgeTimer]
@[simp] theorem setPurgeTimer_store (t : Option Nat) (s : State) : (setPurgeTimer t s).store = s.store := by
  simp only [setPurgeTimer]
@[simp] theorem setPurgeTimer_converter (t : Option Nat) (s : State) : (setPurgeTimer t s).converter = s.converter := by
  simp only [setPurgeTimer]
@[simp] theorem setPurgeTimer_zones (t : Option Nat) (s : State) : (setPurgeTimer t s).zones = s.zones := by
  simp only [setPurgeTimer]
@[simp] theorem setPurgeTimer_alloc (t : Option Nat) (s : State) : (setPurgeTimer t s).alloc = s.alloc := by
  simp only [setPurgeTimer]
@[simp] theorem setPurgeTimer_pwm (t : Option Nat) (s : State) : (setPurgeTimer t s).pwm = s.pwm := by
  simp only [setPurgeTimer]
@[simp] theorem setPurgeTimer_alarm (t : Option Nat) (s : State) : (setPurgeTimer t s).alarm = s.alarm := by
  simp only [setPurgeTimer]
@[simp] theorem setPurgeTimer_north (t : Option Nat) (s : State) : (setPurgeTimer t s).north = s.north := by
  simp only [setPurgeTimer]
@[simp] theorem setPurgeTimer_relayQueue (t : Option Nat) (s : State) : (setPurgeTimer t s).relayQueue = s.relayQueue := by
  simp only [setPurgeTimer]
@[simp] theorem setPurgeTimer_banks (t : Option Nat) (s : State) : (setPurgeTimer t s).banks = s.banks := by
  simp only [setPurgeTimer]
@[simp] theorem setPurgeTimer_control (t : Option Nat) (s : State) :
    (setPurgeTimer t s).control = { s.control with purgeTimer := t } := by
  simp only [setPurgeTimer]
@[simp] theorem setPurgeTimer_pending (t : Option Nat) (s : State) : (setPurgeTimer t s).pending = s.pending := by
  simp only [setPurgeTimer]
@[simp] theorem setPurgeTimer_tables (t : Option Nat) (s : State) : (setPurgeTimer t s).tables = s.tables := by
  simp only [State.tables, setPurgeTimer_banks]
@[simp] theorem setPurgeTimer_site (t : Option Nat) (s : State) : (setPurgeTimer t s).site = s.site := by
  simp only [State.site, setPurgeTimer_tables]
@[simp] theorem setPurgeTimer_policy (t : Option Nat) (s : State) : (setPurgeTimer t s).policy = s.policy := by
  simp only [State.policy, setPurgeTimer_banks]

/-! ### setDevice -/

@[simp] theorem setDevice_hold (d : DeviceState) (s : State) : (setDevice d s).hold = s.hold := by
  simp only [setDevice, handCondition_hold, evalInterlock_hold]
@[simp] theorem setDevice_address (d : DeviceState) (s : State) : (setDevice d s).address = s.address := by
  simp only [setDevice, handCondition_address, evalInterlock_address]
@[simp] theorem setDevice_lines (d : DeviceState) (s : State) : (setDevice d s).lines = s.lines := by
  simp only [setDevice, handCondition_lines, evalInterlock_lines]
@[simp] theorem setDevice_scan (d : DeviceState) (s : State) : (setDevice d s).scan = s.scan := by
  simp only [setDevice, handCondition_scan, evalInterlock_scan]
@[simp] theorem setDevice_store (d : DeviceState) (s : State) : (setDevice d s).store = s.store := by
  simp only [setDevice, handCondition_store, evalInterlock_store]
@[simp] theorem setDevice_converter (d : DeviceState) (s : State) : (setDevice d s).converter = s.converter := by
  simp only [setDevice, handCondition_converter, evalInterlock_converter]
@[simp] theorem setDevice_zones (d : DeviceState) (s : State) : (setDevice d s).zones = s.zones := by
  simp only [setDevice, handCondition_zones, evalInterlock_zones]
@[simp] theorem setDevice_pwm (d : DeviceState) (s : State) : (setDevice d s).pwm = s.pwm := by
  simp only [setDevice, handCondition_pwm, evalInterlock_pwm]
@[simp] theorem setDevice_north (d : DeviceState) (s : State) : (setDevice d s).north = s.north := by
  simp only [setDevice, handCondition_north, evalInterlock_north]
@[simp] theorem setDevice_relayQueue (d : DeviceState) (s : State) : (setDevice d s).relayQueue = s.relayQueue := by
  simp only [setDevice, handCondition_relayQueue, evalInterlock_relayQueue]
@[simp] theorem setDevice_banks (d : DeviceState) (s : State) : (setDevice d s).banks = s.banks := by
  simp only [setDevice, handCondition_banks, evalInterlock_banks]
@[simp] theorem setDevice_control (d : DeviceState) (s : State) :
    (setDevice d s).control = { s.control with device := d, ready := d == .run } := by
  simp only [setDevice, handCondition_control, evalInterlock_control]
@[simp] theorem setDevice_pending (d : DeviceState) (s : State) : (setDevice d s).pending = s.pending := by
  simp only [setDevice, handCondition_pending, evalInterlock_pending]
@[simp] theorem setDevice_tables (d : DeviceState) (s : State) : (setDevice d s).tables = s.tables := by
  simp only [State.tables, setDevice_banks]
@[simp] theorem setDevice_site (d : DeviceState) (s : State) : (setDevice d s).site = s.site := by
  simp only [State.site, setDevice_tables]
@[simp] theorem setDevice_policy (d : DeviceState) (s : State) : (setDevice d s).policy = s.policy := by
  simp only [State.policy, setDevice_banks]

/-! ### closeSlot -/

@[simp] theorem closeSlot_hold (s : State) : (closeSlot s).hold = s.hold := by
  simp only [closeSlot]
@[simp] theorem closeSlot_address (s : State) : (closeSlot s).address = s.address := by
  simp only [closeSlot]
@[simp] theorem closeSlot_lines (s : State) : (closeSlot s).lines = s.lines := by
  simp only [closeSlot]
@[simp] theorem closeSlot_scan (s : State) :
    (closeSlot s).scan = { s.scan with slot := none } := by
  simp only [closeSlot]
@[simp] theorem closeSlot_store (s : State) : (closeSlot s).store = s.store := by
  simp only [closeSlot]
@[simp] theorem closeSlot_converter (s : State) : (closeSlot s).converter = s.converter := by
  simp only [closeSlot]
@[simp] theorem closeSlot_zones (s : State) : (closeSlot s).zones = s.zones := by
  simp only [closeSlot]
@[simp] theorem closeSlot_alloc (s : State) : (closeSlot s).alloc = s.alloc := by
  simp only [closeSlot]
@[simp] theorem closeSlot_pwm (s : State) : (closeSlot s).pwm = s.pwm := by
  simp only [closeSlot]
@[simp] theorem closeSlot_alarm (s : State) : (closeSlot s).alarm = s.alarm := by
  simp only [closeSlot]
@[simp] theorem closeSlot_north (s : State) : (closeSlot s).north = s.north := by
  simp only [closeSlot]
@[simp] theorem closeSlot_relayQueue (s : State) : (closeSlot s).relayQueue = s.relayQueue := by
  simp only [closeSlot]
@[simp] theorem closeSlot_banks (s : State) : (closeSlot s).banks = s.banks := by
  simp only [closeSlot]
@[simp] theorem closeSlot_control (s : State) : (closeSlot s).control = s.control := by
  simp only [closeSlot]
@[simp] theorem closeSlot_pending (s : State) : (closeSlot s).pending = s.pending := by
  simp only [closeSlot]
@[simp] theorem closeSlot_tables (s : State) : (closeSlot s).tables = s.tables := by
  simp only [State.tables, closeSlot_banks]
@[simp] theorem closeSlot_site (s : State) : (closeSlot s).site = s.site := by
  simp only [State.site, closeSlot_tables]
@[simp] theorem closeSlot_policy (s : State) : (closeSlot s).policy = s.policy := by
  simp only [State.policy, closeSlot_banks]

/-! ### joinRelay -/

@[simp] theorem joinRelay_hold (e : RelayEntry) (s : State) : (joinRelay e s).hold = s.hold := by
  simp only [joinRelay]
@[simp] theorem joinRelay_address (e : RelayEntry) (s : State) : (joinRelay e s).address = s.address := by
  simp only [joinRelay]
@[simp] theorem joinRelay_lines (e : RelayEntry) (s : State) : (joinRelay e s).lines = s.lines := by
  simp only [joinRelay]
@[simp] theorem joinRelay_scan (e : RelayEntry) (s : State) : (joinRelay e s).scan = s.scan := by
  simp only [joinRelay]
@[simp] theorem joinRelay_store (e : RelayEntry) (s : State) : (joinRelay e s).store = s.store := by
  simp only [joinRelay]
@[simp] theorem joinRelay_converter (e : RelayEntry) (s : State) : (joinRelay e s).converter = s.converter := by
  simp only [joinRelay]
@[simp] theorem joinRelay_zones (e : RelayEntry) (s : State) : (joinRelay e s).zones = s.zones := by
  simp only [joinRelay]
@[simp] theorem joinRelay_alloc (e : RelayEntry) (s : State) : (joinRelay e s).alloc = s.alloc := by
  simp only [joinRelay]
@[simp] theorem joinRelay_pwm (e : RelayEntry) (s : State) : (joinRelay e s).pwm = s.pwm := by
  simp only [joinRelay]
@[simp] theorem joinRelay_alarm (e : RelayEntry) (s : State) : (joinRelay e s).alarm = s.alarm := by
  simp only [joinRelay]
@[simp] theorem joinRelay_north (e : RelayEntry) (s : State) : (joinRelay e s).north = s.north := by
  simp only [joinRelay]
@[simp] theorem joinRelay_relayQueue (e : RelayEntry) (s : State) :
    (joinRelay e s).relayQueue = s.relayQueue ++ [e] := by
  simp only [joinRelay]
@[simp] theorem joinRelay_banks (e : RelayEntry) (s : State) : (joinRelay e s).banks = s.banks := by
  simp only [joinRelay]
@[simp] theorem joinRelay_control (e : RelayEntry) (s : State) : (joinRelay e s).control = s.control := by
  simp only [joinRelay]
@[simp] theorem joinRelay_pending (e : RelayEntry) (s : State) : (joinRelay e s).pending = s.pending := by
  simp only [joinRelay]
@[simp] theorem joinRelay_tables (e : RelayEntry) (s : State) : (joinRelay e s).tables = s.tables := by
  simp only [State.tables, joinRelay_banks]
@[simp] theorem joinRelay_site (e : RelayEntry) (s : State) : (joinRelay e s).site = s.site := by
  simp only [State.site, joinRelay_tables]
@[simp] theorem joinRelay_policy (e : RelayEntry) (s : State) : (joinRelay e s).policy = s.policy := by
  simp only [State.policy, joinRelay_banks]

/-! ### exchangeBanks -/

@[simp] theorem exchangeBanks_hold (s : State) : (exchangeBanks s).hold = s.hold := by
  simp only [exchangeBanks]
@[simp] theorem exchangeBanks_address (s : State) : (exchangeBanks s).address = s.address := by
  simp only [exchangeBanks]
@[simp] theorem exchangeBanks_lines (s : State) : (exchangeBanks s).lines = s.lines := by
  simp only [exchangeBanks]
@[simp] theorem exchangeBanks_scan (s : State) : (exchangeBanks s).scan = s.scan := by
  simp only [exchangeBanks]
@[simp] theorem exchangeBanks_store (s : State) : (exchangeBanks s).store = s.store := by
  simp only [exchangeBanks]
@[simp] theorem exchangeBanks_converter (s : State) : (exchangeBanks s).converter = s.converter := by
  simp only [exchangeBanks]
@[simp] theorem exchangeBanks_zones (s : State) : (exchangeBanks s).zones = s.zones := by
  simp only [exchangeBanks]
@[simp] theorem exchangeBanks_alloc (s : State) : (exchangeBanks s).alloc = s.alloc := by
  simp only [exchangeBanks]
@[simp] theorem exchangeBanks_pwm (s : State) : (exchangeBanks s).pwm = s.pwm := by
  simp only [exchangeBanks]
@[simp] theorem exchangeBanks_alarm (s : State) : (exchangeBanks s).alarm = s.alarm := by
  simp only [exchangeBanks]
@[simp] theorem exchangeBanks_north (s : State) : (exchangeBanks s).north = s.north := by
  simp only [exchangeBanks]
@[simp] theorem exchangeBanks_relayQueue (s : State) : (exchangeBanks s).relayQueue = s.relayQueue := by
  simp only [exchangeBanks]
@[simp] theorem exchangeBanks_banks (s : State) :
    (exchangeBanks s).banks = { s.banks with active := some s.banks.standbyId } := by
  simp only [exchangeBanks]
@[simp] theorem exchangeBanks_control (s : State) : (exchangeBanks s).control = s.control := by
  simp only [exchangeBanks]
@[simp] theorem exchangeBanks_pending (s : State) : (exchangeBanks s).pending = s.pending := by
  simp only [exchangeBanks]

/-! ### reinitialiseAll -/

@[simp] theorem reinitialiseAll_hold (s : State) : (reinitialiseAll s).hold = s.hold := by
  simp only [reinitialiseAll]
@[simp] theorem reinitialiseAll_address (s : State) : (reinitialiseAll s).address = s.address := by
  simp only [reinitialiseAll]
@[simp] theorem reinitialiseAll_lines (s : State) : (reinitialiseAll s).lines = s.lines := by
  simp only [reinitialiseAll]
@[simp] theorem reinitialiseAll_scan (s : State) : (reinitialiseAll s).scan = s.scan := by
  simp only [reinitialiseAll]
@[simp] theorem reinitialiseAll_store (s : State) :
    (reinitialiseAll s).store = { s.store with channels := Vector.replicate 64 ChannelRec.initial } := by
  simp only [reinitialiseAll]
@[simp] theorem reinitialiseAll_converter (s : State) : (reinitialiseAll s).converter = s.converter := by
  simp only [reinitialiseAll]
@[simp] theorem reinitialiseAll_zones (s : State) :
    (reinitialiseAll s).zones = Vector.replicate 8 ZoneRec.initial := by
  simp only [reinitialiseAll]
@[simp] theorem reinitialiseAll_alloc (s : State) :
    (reinitialiseAll s).alloc = { s.alloc with fans := Vector.replicate 16 FanRec.initial } := by
  simp only [reinitialiseAll]
@[simp] theorem reinitialiseAll_pwm (s : State) : (reinitialiseAll s).pwm = s.pwm := by
  simp only [reinitialiseAll]
@[simp] theorem reinitialiseAll_alarm (s : State) : (reinitialiseAll s).alarm = s.alarm := by
  simp only [reinitialiseAll]
@[simp] theorem reinitialiseAll_north (s : State) : (reinitialiseAll s).north = s.north := by
  simp only [reinitialiseAll]
@[simp] theorem reinitialiseAll_relayQueue (s : State) : (reinitialiseAll s).relayQueue = s.relayQueue := by
  simp only [reinitialiseAll]
@[simp] theorem reinitialiseAll_banks (s : State) : (reinitialiseAll s).banks = s.banks := by
  simp only [reinitialiseAll]
@[simp] theorem reinitialiseAll_control (s : State) : (reinitialiseAll s).control = s.control := by
  simp only [reinitialiseAll]
@[simp] theorem reinitialiseAll_pending (s : State) : (reinitialiseAll s).pending = s.pending := by
  simp only [reinitialiseAll]
@[simp] theorem reinitialiseAll_tables (s : State) : (reinitialiseAll s).tables = s.tables := by
  simp only [State.tables, reinitialiseAll_banks]
@[simp] theorem reinitialiseAll_site (s : State) : (reinitialiseAll s).site = s.site := by
  simp only [State.site, reinitialiseAll_tables]
@[simp] theorem reinitialiseAll_policy (s : State) : (reinitialiseAll s).policy = s.policy := by
  simp only [State.policy, reinitialiseAll_banks]

/-! ### reinitialise -/

@[simp] theorem reinitialise_hold (old new : Memory) (s : State) : (reinitialise old new s).hold = s.hold := by
  simp only [reinitialise]
@[simp] theorem reinitialise_address (old new : Memory) (s : State) : (reinitialise old new s).address = s.address := by
  simp only [reinitialise]
@[simp] theorem reinitialise_lines (old new : Memory) (s : State) : (reinitialise old new s).lines = s.lines := by
  simp only [reinitialise]
@[simp] theorem reinitialise_scan (old new : Memory) (s : State) : (reinitialise old new s).scan = s.scan := by
  simp only [reinitialise]
@[simp] theorem reinitialise_converter (old new : Memory) (s : State) : (reinitialise old new s).converter = s.converter := by
  simp only [reinitialise]
@[simp] theorem reinitialise_pwm (old new : Memory) (s : State) : (reinitialise old new s).pwm = s.pwm := by
  simp only [reinitialise]
@[simp] theorem reinitialise_alarm (old new : Memory) (s : State) : (reinitialise old new s).alarm = s.alarm := by
  simp only [reinitialise]
@[simp] theorem reinitialise_north (old new : Memory) (s : State) : (reinitialise old new s).north = s.north := by
  simp only [reinitialise]
@[simp] theorem reinitialise_relayQueue (old new : Memory) (s : State) : (reinitialise old new s).relayQueue = s.relayQueue := by
  simp only [reinitialise]
@[simp] theorem reinitialise_banks (old new : Memory) (s : State) : (reinitialise old new s).banks = s.banks := by
  simp only [reinitialise]
@[simp] theorem reinitialise_control (old new : Memory) (s : State) : (reinitialise old new s).control = s.control := by
  simp only [reinitialise]
@[simp] theorem reinitialise_pending (old new : Memory) (s : State) : (reinitialise old new s).pending = s.pending := by
  simp only [reinitialise]
@[simp] theorem reinitialise_tables (old new : Memory) (s : State) : (reinitialise old new s).tables = s.tables := by
  simp only [State.tables, reinitialise_banks]
@[simp] theorem reinitialise_site (old new : Memory) (s : State) : (reinitialise old new s).site = s.site := by
  simp only [State.site, reinitialise_tables]
@[simp] theorem reinitialise_policy (old new : Memory) (s : State) : (reinitialise old new s).policy = s.policy := by
  simp only [State.policy, reinitialise_banks]

/-! ### finishSwap -/

@[simp] theorem finishSwap_hold (s : State) : (finishSwap s).hold = s.hold := by
  simp only [finishSwap, buildResponse_hold]
@[simp] theorem finishSwap_address (s : State) : (finishSwap s).address = s.address := by
  simp only [finishSwap, buildResponse_address]
@[simp] theorem finishSwap_lines (s : State) :
    (finishSwap s).lines = northRateAtSwap s.site.north (southRateAtSwap s.site.south s.lines) := by
  simp only [finishSwap, buildResponse_lines]
@[simp] theorem finishSwap_scan (s : State) : (finishSwap s).scan = s.scan := by
  simp only [finishSwap, buildResponse_scan]
@[simp] theorem finishSwap_store (s : State) : (finishSwap s).store = s.store := by
  simp only [finishSwap, buildResponse_store]
@[simp] theorem finishSwap_converter (s : State) : (finishSwap s).converter = s.converter := by
  simp only [finishSwap, buildResponse_converter]
@[simp] theorem finishSwap_zones (s : State) : (finishSwap s).zones = s.zones := by
  simp only [finishSwap, buildResponse_zones]
@[simp] theorem finishSwap_alloc (s : State) : (finishSwap s).alloc = s.alloc := by
  simp only [finishSwap, buildResponse_alloc]
@[simp] theorem finishSwap_pwm (s : State) : (finishSwap s).pwm = s.pwm := by
  simp only [finishSwap, buildResponse_pwm]
@[simp] theorem finishSwap_alarm (s : State) : (finishSwap s).alarm = s.alarm := by
  simp only [finishSwap, buildResponse_alarm]
@[simp] theorem finishSwap_relayQueue (s : State) : (finishSwap s).relayQueue = s.relayQueue := by
  simp only [finishSwap, buildResponse_relayQueue]
@[simp] theorem finishSwap_banks (s : State) :
    (finishSwap s).banks = { s.banks with state := .idle } := by
  simp only [finishSwap, buildResponse_banks]
@[simp] theorem finishSwap_control (s : State) : (finishSwap s).control = s.control := by
  simp only [finishSwap, buildResponse_control]
@[simp] theorem finishSwap_pending (s : State) : (finishSwap s).pending = s.pending := by
  simp only [finishSwap, buildResponse_pending]

/-! ### startNorth -/

@[simp] theorem startNorth_hold (t : Telegram) (mark : ReplyMark) (s : State) : (startNorth t mark s).hold = s.hold := by
  simp only [startNorth]
@[simp] theorem startNorth_address (t : Telegram) (mark : ReplyMark) (s : State) : (startNorth t mark s).address = s.address := by
  simp only [startNorth]
@[simp] theorem startNorth_lines (t : Telegram) (mark : ReplyMark) (s : State) :
    (startNorth t mark s).lines = { s.lines with northTx := .sending t mark } := by
  simp only [startNorth]
@[simp] theorem startNorth_scan (t : Telegram) (mark : ReplyMark) (s : State) : (startNorth t mark s).scan = s.scan := by
  simp only [startNorth]
@[simp] theorem startNorth_store (t : Telegram) (mark : ReplyMark) (s : State) : (startNorth t mark s).store = s.store := by
  simp only [startNorth]
@[simp] theorem startNorth_converter (t : Telegram) (mark : ReplyMark) (s : State) : (startNorth t mark s).converter = s.converter := by
  simp only [startNorth]
@[simp] theorem startNorth_zones (t : Telegram) (mark : ReplyMark) (s : State) : (startNorth t mark s).zones = s.zones := by
  simp only [startNorth]
@[simp] theorem startNorth_alloc (t : Telegram) (mark : ReplyMark) (s : State) : (startNorth t mark s).alloc = s.alloc := by
  simp only [startNorth]
@[simp] theorem startNorth_pwm (t : Telegram) (mark : ReplyMark) (s : State) : (startNorth t mark s).pwm = s.pwm := by
  simp only [startNorth]
@[simp] theorem startNorth_alarm (t : Telegram) (mark : ReplyMark) (s : State) : (startNorth t mark s).alarm = s.alarm := by
  simp only [startNorth]
@[simp] theorem startNorth_north (t : Telegram) (mark : ReplyMark) (s : State) : (startNorth t mark s).north = s.north := by
  simp only [startNorth]
@[simp] theorem startNorth_relayQueue (t : Telegram) (mark : ReplyMark) (s : State) : (startNorth t mark s).relayQueue = s.relayQueue := by
  simp only [startNorth]
@[simp] theorem startNorth_banks (t : Telegram) (mark : ReplyMark) (s : State) : (startNorth t mark s).banks = s.banks := by
  simp only [startNorth]
@[simp] theorem startNorth_control (t : Telegram) (mark : ReplyMark) (s : State) : (startNorth t mark s).control = s.control := by
  simp only [startNorth]
@[simp] theorem startNorth_pending (t : Telegram) (mark : ReplyMark) (s : State) : (startNorth t mark s).pending = s.pending := by
  simp only [startNorth]
@[simp] theorem startNorth_tables (t : Telegram) (mark : ReplyMark) (s : State) : (startNorth t mark s).tables = s.tables := by
  simp only [State.tables, startNorth_banks]
@[simp] theorem startNorth_site (t : Telegram) (mark : ReplyMark) (s : State) : (startNorth t mark s).site = s.site := by
  simp only [State.site, startNorth_tables]
@[simp] theorem startNorth_policy (t : Telegram) (mark : ReplyMark) (s : State) : (startNorth t mark s).policy = s.policy := by
  simp only [State.policy, startNorth_banks]

/-! ### updateCredits -/

@[simp] theorem updateCredits_hold (c : NorthClass) (s : State) : (updateCredits c s).hold = s.hold := by
  simp only [updateCredits]
@[simp] theorem updateCredits_address (c : NorthClass) (s : State) : (updateCredits c s).address = s.address := by
  simp only [updateCredits]
@[simp] theorem updateCredits_lines (c : NorthClass) (s : State) : (updateCredits c s).lines = s.lines := by
  simp only [updateCredits]
@[simp] theorem updateCredits_scan (c : NorthClass) (s : State) : (updateCredits c s).scan = s.scan := by
  simp only [updateCredits]
@[simp] theorem updateCredits_store (c : NorthClass) (s : State) : (updateCredits c s).store = s.store := by
  simp only [updateCredits]
@[simp] theorem updateCredits_converter (c : NorthClass) (s : State) : (updateCredits c s).converter = s.converter := by
  simp only [updateCredits]
@[simp] theorem updateCredits_zones (c : NorthClass) (s : State) : (updateCredits c s).zones = s.zones := by
  simp only [updateCredits]
@[simp] theorem updateCredits_alloc (c : NorthClass) (s : State) : (updateCredits c s).alloc = s.alloc := by
  simp only [updateCredits]
@[simp] theorem updateCredits_pwm (c : NorthClass) (s : State) : (updateCredits c s).pwm = s.pwm := by
  simp only [updateCredits]
@[simp] theorem updateCredits_alarm (c : NorthClass) (s : State) : (updateCredits c s).alarm = s.alarm := by
  simp only [updateCredits]
@[simp] theorem updateCredits_relayQueue (c : NorthClass) (s : State) : (updateCredits c s).relayQueue = s.relayQueue := by
  simp only [updateCredits]
@[simp] theorem updateCredits_banks (c : NorthClass) (s : State) : (updateCredits c s).banks = s.banks := by
  simp only [updateCredits]
@[simp] theorem updateCredits_control (c : NorthClass) (s : State) : (updateCredits c s).control = s.control := by
  simp only [updateCredits]
@[simp] theorem updateCredits_pending (c : NorthClass) (s : State) : (updateCredits c s).pending = s.pending := by
  simp only [updateCredits]
@[simp] theorem updateCredits_tables (c : NorthClass) (s : State) : (updateCredits c s).tables = s.tables := by
  simp only [State.tables, updateCredits_banks]
@[simp] theorem updateCredits_site (c : NorthClass) (s : State) : (updateCredits c s).site = s.site := by
  simp only [State.site, updateCredits_tables]
@[simp] theorem updateCredits_policy (c : NorthClass) (s : State) : (updateCredits c s).policy = s.policy := by
  simp only [State.policy, updateCredits_banks]

/-! ### openTransaction -/

@[simp] theorem openTransaction_hold (t : Telegram) (purpose : Purpose) (windowMs : Nat) (s : State) : (openTransaction t purpose windowMs s).hold = s.hold := by
  simp only [openTransaction]
@[simp] theorem openTransaction_address (t : Telegram) (purpose : Purpose) (windowMs : Nat) (s : State) : (openTransaction t purpose windowMs s).address = s.address := by
  simp only [openTransaction]
@[simp] theorem openTransaction_lines (t : Telegram) (purpose : Purpose) (windowMs : Nat) (s : State) :
    (openTransaction t purpose windowMs s).lines = { s.lines with southTx := some t, southRx := .hunt } := by
  simp only [openTransaction]
@[simp] theorem openTransaction_scan (t : Telegram) (purpose : Purpose) (windowMs : Nat) (s : State) :
    (openTransaction t purpose windowMs s).scan = { s.scan with slot := some { node := t.dest, purpose, windowMs, windowBegun := false } } := by
  simp only [openTransaction]
@[simp] theorem openTransaction_store (t : Telegram) (purpose : Purpose) (windowMs : Nat) (s : State) : (openTransaction t purpose windowMs s).store = s.store := by
  simp only [openTransaction]
@[simp] theorem openTransaction_converter (t : Telegram) (purpose : Purpose) (windowMs : Nat) (s : State) : (openTransaction t purpose windowMs s).converter = s.converter := by
  simp only [openTransaction]
@[simp] theorem openTransaction_zones (t : Telegram) (purpose : Purpose) (windowMs : Nat) (s : State) : (openTransaction t purpose windowMs s).zones = s.zones := by
  simp only [openTransaction]
@[simp] theorem openTransaction_alloc (t : Telegram) (purpose : Purpose) (windowMs : Nat) (s : State) : (openTransaction t purpose windowMs s).alloc = s.alloc := by
  simp only [openTransaction]
@[simp] theorem openTransaction_pwm (t : Telegram) (purpose : Purpose) (windowMs : Nat) (s : State) : (openTransaction t purpose windowMs s).pwm = s.pwm := by
  simp only [openTransaction]
@[simp] theorem openTransaction_alarm (t : Telegram) (purpose : Purpose) (windowMs : Nat) (s : State) : (openTransaction t purpose windowMs s).alarm = s.alarm := by
  simp only [openTransaction]
@[simp] theorem openTransaction_north (t : Telegram) (purpose : Purpose) (windowMs : Nat) (s : State) : (openTransaction t purpose windowMs s).north = s.north := by
  simp only [openTransaction]
@[simp] theorem openTransaction_relayQueue (t : Telegram) (purpose : Purpose) (windowMs : Nat) (s : State) : (openTransaction t purpose windowMs s).relayQueue = s.relayQueue := by
  simp only [openTransaction]
@[simp] theorem openTransaction_banks (t : Telegram) (purpose : Purpose) (windowMs : Nat) (s : State) : (openTransaction t purpose windowMs s).banks = s.banks := by
  simp only [openTransaction]
@[simp] theorem openTransaction_control (t : Telegram) (purpose : Purpose) (windowMs : Nat) (s : State) : (openTransaction t purpose windowMs s).control = s.control := by
  simp only [openTransaction]
@[simp] theorem openTransaction_pending (t : Telegram) (purpose : Purpose) (windowMs : Nat) (s : State) : (openTransaction t purpose windowMs s).pending = s.pending := by
  simp only [openTransaction]
@[simp] theorem openTransaction_tables (t : Telegram) (purpose : Purpose) (windowMs : Nat) (s : State) : (openTransaction t purpose windowMs s).tables = s.tables := by
  simp only [State.tables, openTransaction_banks]
@[simp] theorem openTransaction_site (t : Telegram) (purpose : Purpose) (windowMs : Nat) (s : State) : (openTransaction t purpose windowMs s).site = s.site := by
  simp only [State.site, openTransaction_tables]
@[simp] theorem openTransaction_policy (t : Telegram) (purpose : Purpose) (windowMs : Nat) (s : State) : (openTransaction t purpose windowMs s).policy = s.policy := by
  simp only [State.policy, openTransaction_banks]

/-! ### clearStrayFlags -/

@[simp] theorem clearStrayFlags_hold (s : State) : (clearStrayFlags s).hold = s.hold := by
  simp only [clearStrayFlags]
@[simp] theorem clearStrayFlags_address (s : State) : (clearStrayFlags s).address = s.address := by
  simp only [clearStrayFlags]
@[simp] theorem clearStrayFlags_lines (s : State) : (clearStrayFlags s).lines = s.lines := by
  simp only [clearStrayFlags]
@[simp] theorem clearStrayFlags_scan (s : State) : (clearStrayFlags s).scan = s.scan := by
  simp only [clearStrayFlags]
@[simp] theorem clearStrayFlags_store (s : State) : (clearStrayFlags s).store = s.store := by
  simp only [clearStrayFlags]
@[simp] theorem clearStrayFlags_converter (s : State) : (clearStrayFlags s).converter = s.converter := by
  simp only [clearStrayFlags]
@[simp] theorem clearStrayFlags_zones (s : State) : (clearStrayFlags s).zones = s.zones := by
  simp only [clearStrayFlags]
@[simp] theorem clearStrayFlags_pwm (s : State) : (clearStrayFlags s).pwm = s.pwm := by
  simp only [clearStrayFlags]
@[simp] theorem clearStrayFlags_alarm (s : State) : (clearStrayFlags s).alarm = s.alarm := by
  simp only [clearStrayFlags]
@[simp] theorem clearStrayFlags_north (s : State) : (clearStrayFlags s).north = s.north := by
  simp only [clearStrayFlags]
@[simp] theorem clearStrayFlags_relayQueue (s : State) : (clearStrayFlags s).relayQueue = s.relayQueue := by
  simp only [clearStrayFlags]
@[simp] theorem clearStrayFlags_banks (s : State) : (clearStrayFlags s).banks = s.banks := by
  simp only [clearStrayFlags]
@[simp] theorem clearStrayFlags_control (s : State) : (clearStrayFlags s).control = s.control := by
  simp only [clearStrayFlags]
@[simp] theorem clearStrayFlags_pending (s : State) : (clearStrayFlags s).pending = s.pending := by
  simp only [clearStrayFlags]
@[simp] theorem clearStrayFlags_tables (s : State) : (clearStrayFlags s).tables = s.tables := by
  simp only [State.tables, clearStrayFlags_banks]
@[simp] theorem clearStrayFlags_site (s : State) : (clearStrayFlags s).site = s.site := by
  simp only [State.site, clearStrayFlags_tables]
@[simp] theorem clearStrayFlags_policy (s : State) : (clearStrayFlags s).policy = s.policy := by
  simp only [State.policy, clearStrayFlags_banks]

/-! ### dropSupervisorWork -/

@[simp] theorem dropSupervisorWork_hold (s : State) : (dropSupervisorWork s).hold = s.hold := by
  simp only [dropSupervisorWork]
@[simp] theorem dropSupervisorWork_address (s : State) : (dropSupervisorWork s).address = s.address := by
  simp only [dropSupervisorWork]
@[simp] theorem dropSupervisorWork_lines (s : State) : (dropSupervisorWork s).lines = s.lines := by
  simp only [dropSupervisorWork]
@[simp] theorem dropSupervisorWork_scan (s : State) : (dropSupervisorWork s).scan = s.scan := by
  simp only [dropSupervisorWork]
@[simp] theorem dropSupervisorWork_store (s : State) : (dropSupervisorWork s).store = s.store := by
  simp only [dropSupervisorWork]
@[simp] theorem dropSupervisorWork_converter (s : State) : (dropSupervisorWork s).converter = s.converter := by
  simp only [dropSupervisorWork]
@[simp] theorem dropSupervisorWork_zones (s : State) : (dropSupervisorWork s).zones = s.zones := by
  simp only [dropSupervisorWork]
@[simp] theorem dropSupervisorWork_pwm (s : State) : (dropSupervisorWork s).pwm = s.pwm := by
  simp only [dropSupervisorWork]
@[simp] theorem dropSupervisorWork_alarm (s : State) : (dropSupervisorWork s).alarm = s.alarm := by
  simp only [dropSupervisorWork]
@[simp] theorem dropSupervisorWork_north (s : State) :
    (dropSupervisorWork s).north = { s.north with reserved := s.north.reserved - confirmedCount s.relayQueue, silence := .expired, supervisorLost := true } := by
  simp only [dropSupervisorWork]
@[simp] theorem dropSupervisorWork_relayQueue (s : State) :
    (dropSupervisorWork s).relayQueue = [] := by
  simp only [dropSupervisorWork]
@[simp] theorem dropSupervisorWork_banks (s : State) : (dropSupervisorWork s).banks = s.banks := by
  simp only [dropSupervisorWork]
@[simp] theorem dropSupervisorWork_control (s : State) : (dropSupervisorWork s).control = s.control := by
  simp only [dropSupervisorWork]
@[simp] theorem dropSupervisorWork_pending (s : State) : (dropSupervisorWork s).pending = s.pending := by
  simp only [dropSupervisorWork]
@[simp] theorem dropSupervisorWork_tables (s : State) : (dropSupervisorWork s).tables = s.tables := by
  simp only [State.tables, dropSupervisorWork_banks]
@[simp] theorem dropSupervisorWork_site (s : State) : (dropSupervisorWork s).site = s.site := by
  simp only [State.site, dropSupervisorWork_tables]
@[simp] theorem dropSupervisorWork_policy (s : State) : (dropSupervisorWork s).policy = s.policy := by
  simp only [State.policy, dropSupervisorWork_banks]

/-! ### evaluateZones -/

@[simp] theorem evaluateZones_hold (s : State) : (evaluateZones s).hold = s.hold := by
  simp only [evaluateZones]
@[simp] theorem evaluateZones_address (s : State) : (evaluateZones s).address = s.address := by
  simp only [evaluateZones]
@[simp] theorem evaluateZones_lines (s : State) : (evaluateZones s).lines = s.lines := by
  simp only [evaluateZones]
@[simp] theorem evaluateZones_scan (s : State) : (evaluateZones s).scan = s.scan := by
  simp only [evaluateZones]
@[simp] theorem evaluateZones_store (s : State) : (evaluateZones s).store = s.store := by
  simp only [evaluateZones]
@[simp] theorem evaluateZones_converter (s : State) : (evaluateZones s).converter = s.converter := by
  simp only [evaluateZones]
@[simp] theorem evaluateZones_alloc (s : State) : (evaluateZones s).alloc = s.alloc := by
  simp only [evaluateZones]
@[simp] theorem evaluateZones_pwm (s : State) : (evaluateZones s).pwm = s.pwm := by
  simp only [evaluateZones]
@[simp] theorem evaluateZones_alarm (s : State) : (evaluateZones s).alarm = s.alarm := by
  simp only [evaluateZones]
@[simp] theorem evaluateZones_north (s : State) : (evaluateZones s).north = s.north := by
  simp only [evaluateZones]
@[simp] theorem evaluateZones_relayQueue (s : State) : (evaluateZones s).relayQueue = s.relayQueue := by
  simp only [evaluateZones]
@[simp] theorem evaluateZones_banks (s : State) : (evaluateZones s).banks = s.banks := by
  simp only [evaluateZones]
@[simp] theorem evaluateZones_control (s : State) : (evaluateZones s).control = s.control := by
  simp only [evaluateZones]
@[simp] theorem evaluateZones_pending (s : State) : (evaluateZones s).pending = s.pending := by
  simp only [evaluateZones]
@[simp] theorem evaluateZones_tables (s : State) : (evaluateZones s).tables = s.tables := by
  simp only [State.tables, evaluateZones_banks]
@[simp] theorem evaluateZones_site (s : State) : (evaluateZones s).site = s.site := by
  simp only [State.site, evaluateZones_tables]
@[simp] theorem evaluateZones_policy (s : State) : (evaluateZones s).policy = s.policy := by
  simp only [State.policy, evaluateZones_banks]

/-! ### sampleLocalFans -/

@[simp] theorem sampleLocalFans_hold (s : State) : (sampleLocalFans s).hold = s.hold := by
  simp only [sampleLocalFans, clearTach_hold]
@[simp] theorem sampleLocalFans_address (s : State) : (sampleLocalFans s).address = s.address := by
  simp only [sampleLocalFans, clearTach_address]
@[simp] theorem sampleLocalFans_lines (s : State) : (sampleLocalFans s).lines = s.lines := by
  simp only [sampleLocalFans, clearTach_lines]
@[simp] theorem sampleLocalFans_scan (s : State) : (sampleLocalFans s).scan = s.scan := by
  simp only [sampleLocalFans, clearTach_scan]
@[simp] theorem sampleLocalFans_store (s : State) : (sampleLocalFans s).store = s.store := by
  simp only [sampleLocalFans, clearTach_store]
@[simp] theorem sampleLocalFans_converter (s : State) : (sampleLocalFans s).converter = s.converter := by
  simp only [sampleLocalFans, clearTach_converter]
@[simp] theorem sampleLocalFans_zones (s : State) : (sampleLocalFans s).zones = s.zones := by
  simp only [sampleLocalFans, clearTach_zones]
@[simp] theorem sampleLocalFans_pwm (s : State) :
    (sampleLocalFans s).pwm = { s.pwm with tach := Vector.replicate 4 0 } := by
  simp only [sampleLocalFans, clearTach_pwm]
@[simp] theorem sampleLocalFans_alarm (s : State) : (sampleLocalFans s).alarm = s.alarm := by
  simp only [sampleLocalFans, clearTach_alarm]
@[simp] theorem sampleLocalFans_north (s : State) : (sampleLocalFans s).north = s.north := by
  simp only [sampleLocalFans, clearTach_north]
@[simp] theorem sampleLocalFans_relayQueue (s : State) : (sampleLocalFans s).relayQueue = s.relayQueue := by
  simp only [sampleLocalFans, clearTach_relayQueue]
@[simp] theorem sampleLocalFans_banks (s : State) : (sampleLocalFans s).banks = s.banks := by
  simp only [sampleLocalFans, clearTach_banks]
@[simp] theorem sampleLocalFans_control (s : State) : (sampleLocalFans s).control = s.control := by
  simp only [sampleLocalFans, clearTach_control]
@[simp] theorem sampleLocalFans_pending (s : State) : (sampleLocalFans s).pending = s.pending := by
  simp only [sampleLocalFans, clearTach_pending]
@[simp] theorem sampleLocalFans_tables (s : State) : (sampleLocalFans s).tables = s.tables := by
  simp only [State.tables, sampleLocalFans_banks]
@[simp] theorem sampleLocalFans_site (s : State) : (sampleLocalFans s).site = s.site := by
  simp only [State.site, sampleLocalFans_tables]
@[simp] theorem sampleLocalFans_policy (s : State) : (sampleLocalFans s).policy = s.policy := by
  simp only [State.policy, sampleLocalFans_banks]

/-! ### allocateZones -/

@[simp] theorem allocateZones_hold (s : State) : (allocateZones s).hold = s.hold := by
  simp only [allocateZones]
@[simp] theorem allocateZones_address (s : State) : (allocateZones s).address = s.address := by
  simp only [allocateZones]
@[simp] theorem allocateZones_lines (s : State) : (allocateZones s).lines = s.lines := by
  simp only [allocateZones]
@[simp] theorem allocateZones_scan (s : State) : (allocateZones s).scan = s.scan := by
  simp only [allocateZones]
@[simp] theorem allocateZones_store (s : State) : (allocateZones s).store = s.store := by
  simp only [allocateZones]
@[simp] theorem allocateZones_converter (s : State) : (allocateZones s).converter = s.converter := by
  simp only [allocateZones]
@[simp] theorem allocateZones_pwm (s : State) : (allocateZones s).pwm = s.pwm := by
  simp only [allocateZones]
@[simp] theorem allocateZones_alarm (s : State) : (allocateZones s).alarm = s.alarm := by
  simp only [allocateZones]
@[simp] theorem allocateZones_north (s : State) : (allocateZones s).north = s.north := by
  simp only [allocateZones]
@[simp] theorem allocateZones_relayQueue (s : State) : (allocateZones s).relayQueue = s.relayQueue := by
  simp only [allocateZones]
@[simp] theorem allocateZones_banks (s : State) : (allocateZones s).banks = s.banks := by
  simp only [allocateZones]
@[simp] theorem allocateZones_control (s : State) : (allocateZones s).control = s.control := by
  simp only [allocateZones]
@[simp] theorem allocateZones_pending (s : State) : (allocateZones s).pending = s.pending := by
  simp only [allocateZones]
@[simp] theorem allocateZones_tables (s : State) : (allocateZones s).tables = s.tables := by
  simp only [State.tables, allocateZones_banks]
@[simp] theorem allocateZones_site (s : State) : (allocateZones s).site = s.site := by
  simp only [State.site, allocateZones_tables]
@[simp] theorem allocateZones_policy (s : State) : (allocateZones s).policy = s.policy := by
  simp only [State.policy, allocateZones_banks]

/-! ### commandFans -/

@[simp] theorem commandFans_hold (s : State) : (commandFans s).hold = s.hold := by
  simp only [commandFans, writeOutputs_hold]
@[simp] theorem commandFans_address (s : State) : (commandFans s).address = s.address := by
  simp only [commandFans, writeOutputs_address]
@[simp] theorem commandFans_lines (s : State) : (commandFans s).lines = s.lines := by
  simp only [commandFans, writeOutputs_lines]
@[simp] theorem commandFans_scan (s : State) : (commandFans s).scan = s.scan := by
  simp only [commandFans, writeOutputs_scan]
@[simp] theorem commandFans_store (s : State) : (commandFans s).store = s.store := by
  simp only [commandFans, writeOutputs_store]
@[simp] theorem commandFans_converter (s : State) : (commandFans s).converter = s.converter := by
  simp only [commandFans, writeOutputs_converter]
@[simp] theorem commandFans_zones (s : State) : (commandFans s).zones = s.zones := by
  simp only [commandFans, writeOutputs_zones]
@[simp] theorem commandFans_alarm (s : State) : (commandFans s).alarm = s.alarm := by
  simp only [commandFans, writeOutputs_alarm]
@[simp] theorem commandFans_north (s : State) : (commandFans s).north = s.north := by
  simp only [commandFans, writeOutputs_north]
@[simp] theorem commandFans_relayQueue (s : State) : (commandFans s).relayQueue = s.relayQueue := by
  simp only [commandFans, writeOutputs_relayQueue]
@[simp] theorem commandFans_banks (s : State) : (commandFans s).banks = s.banks := by
  simp only [commandFans, writeOutputs_banks]
@[simp] theorem commandFans_control (s : State) : (commandFans s).control = s.control := by
  simp only [commandFans, writeOutputs_control]
@[simp] theorem commandFans_pending (s : State) : (commandFans s).pending = s.pending := by
  simp only [commandFans, writeOutputs_pending]
@[simp] theorem commandFans_tables (s : State) : (commandFans s).tables = s.tables := by
  simp only [State.tables, commandFans_banks]
@[simp] theorem commandFans_site (s : State) : (commandFans s).site = s.site := by
  simp only [State.site, commandFans_tables]
@[simp] theorem commandFans_policy (s : State) : (commandFans s).policy = s.policy := by
  simp only [State.policy, commandFans_banks]

/-! ### workFlags -/

@[simp] theorem workFlags_hold (s : State) : (workFlags s).hold = s.hold := by
  simp only [workFlags]
@[simp] theorem workFlags_address (s : State) : (workFlags s).address = s.address := by
  simp only [workFlags]
@[simp] theorem workFlags_lines (s : State) : (workFlags s).lines = s.lines := by
  simp only [workFlags]
@[simp] theorem workFlags_scan (s : State) : (workFlags s).scan = s.scan := by
  simp only [workFlags]
@[simp] theorem workFlags_store (s : State) : (workFlags s).store = s.store := by
  simp only [workFlags]
@[simp] theorem workFlags_converter (s : State) : (workFlags s).converter = s.converter := by
  simp only [workFlags]
@[simp] theorem workFlags_zones (s : State) : (workFlags s).zones = s.zones := by
  simp only [workFlags]
@[simp] theorem workFlags_pwm (s : State) : (workFlags s).pwm = s.pwm := by
  simp only [workFlags]
@[simp] theorem workFlags_alarm (s : State) : (workFlags s).alarm = s.alarm := by
  simp only [workFlags]
@[simp] theorem workFlags_north (s : State) : (workFlags s).north = s.north := by
  simp only [workFlags]
@[simp] theorem workFlags_relayQueue (s : State) : (workFlags s).relayQueue = s.relayQueue := by
  simp only [workFlags]
@[simp] theorem workFlags_banks (s : State) : (workFlags s).banks = s.banks := by
  simp only [workFlags]
@[simp] theorem workFlags_control (s : State) : (workFlags s).control = s.control := by
  simp only [workFlags]
@[simp] theorem workFlags_pending (s : State) : (workFlags s).pending = s.pending := by
  simp only [workFlags]
@[simp] theorem workFlags_tables (s : State) : (workFlags s).tables = s.tables := by
  simp only [State.tables, workFlags_banks]
@[simp] theorem workFlags_site (s : State) : (workFlags s).site = s.site := by
  simp only [State.site, workFlags_tables]
@[simp] theorem workFlags_policy (s : State) : (workFlags s).policy = s.policy := by
  simp only [State.policy, workFlags_banks]

/-! ### takeZoneConditions -/

@[simp] theorem takeZoneConditions_hold (s : State) : (takeZoneConditions s).hold = s.hold := by
  simp only [takeZoneConditions, handZoneConditions_hold]
@[simp] theorem takeZoneConditions_address (s : State) : (takeZoneConditions s).address = s.address := by
  simp only [takeZoneConditions, handZoneConditions_address]
@[simp] theorem takeZoneConditions_lines (s : State) : (takeZoneConditions s).lines = s.lines := by
  simp only [takeZoneConditions, handZoneConditions_lines]
@[simp] theorem takeZoneConditions_scan (s : State) : (takeZoneConditions s).scan = s.scan := by
  simp only [takeZoneConditions, handZoneConditions_scan]
@[simp] theorem takeZoneConditions_store (s : State) : (takeZoneConditions s).store = s.store := by
  simp only [takeZoneConditions, handZoneConditions_store]
@[simp] theorem takeZoneConditions_converter (s : State) : (takeZoneConditions s).converter = s.converter := by
  simp only [takeZoneConditions, handZoneConditions_converter]
@[simp] theorem takeZoneConditions_zones (s : State) : (takeZoneConditions s).zones = s.zones := by
  simp only [takeZoneConditions, handZoneConditions_zones]
@[simp] theorem takeZoneConditions_alloc (s : State) : (takeZoneConditions s).alloc = s.alloc := by
  simp only [takeZoneConditions, handZoneConditions_alloc]
@[simp] theorem takeZoneConditions_pwm (s : State) : (takeZoneConditions s).pwm = s.pwm := by
  simp only [takeZoneConditions, handZoneConditions_pwm]
@[simp] theorem takeZoneConditions_north (s : State) : (takeZoneConditions s).north = s.north := by
  simp only [takeZoneConditions, handZoneConditions_north]
@[simp] theorem takeZoneConditions_relayQueue (s : State) : (takeZoneConditions s).relayQueue = s.relayQueue := by
  simp only [takeZoneConditions, handZoneConditions_relayQueue]
@[simp] theorem takeZoneConditions_banks (s : State) : (takeZoneConditions s).banks = s.banks := by
  simp only [takeZoneConditions, handZoneConditions_banks]
@[simp] theorem takeZoneConditions_control (s : State) : (takeZoneConditions s).control = s.control := by
  simp only [takeZoneConditions, handZoneConditions_control]
@[simp] theorem takeZoneConditions_pending (s : State) : (takeZoneConditions s).pending = s.pending := by
  simp only [takeZoneConditions, handZoneConditions_pending]
@[simp] theorem takeZoneConditions_tables (s : State) : (takeZoneConditions s).tables = s.tables := by
  simp only [State.tables, takeZoneConditions_banks]
@[simp] theorem takeZoneConditions_site (s : State) : (takeZoneConditions s).site = s.site := by
  simp only [State.site, takeZoneConditions_tables]
@[simp] theorem takeZoneConditions_policy (s : State) : (takeZoneConditions s).policy = s.policy := by
  simp only [State.policy, takeZoneConditions_banks]

end Sys2Proof.Machine
end

