-- ==== Sys2Proof/Laws/Ops.lean ====
section
/-! SUPPORT. For each shared operation, what it can do and what it leaves. -/

namespace Sys2Proof.Machine

/-! ### Vectors of records -/

@[simp] theorem getElem_mapFin {α : Type} {n : Nat} (f : Fin n → α → α) (v : Vector α n) (i : Nat)
    (h : i < n) : (mapFin f v)[i] = f ⟨i, h⟩ v[i] := by
  simp [mapFin]

@[simp] theorem fin_getElem_mapFin {α : Type} {n : Nat} (f : Fin n → α → α) (v : Vector α n)
    (i : Fin n) : (mapFin f v)[i] = f i v[i] := by
  simp [mapFin]

theorem fin_getElem_set {α : Type} {n : Nat} (v : Vector α n) (i j : Fin n) (x : α) :
    (v.set i x)[j] = if i = j then x else v[j] := by
  simp only [Fin.getElem_fin, Vector.getElem_set, Fin.ext_iff]

/-! ### Outcomes -/

/-- A live command that the part, out of reset, runs by `f`. -/
theorem live_of_running (f : State → State) {s : State} (h : s.held = false) :
    live f s = .next (f s) := by
  simp [live, h]

/-- A part held in reset runs nothing. -/
theorem live_of_held (f : State → State) {s : State} (h : s.held = true) : live f s = .next s := by
  simp [live, h]

/-- Every live command answers a next state. -/
theorem live_next (f : State → State) (s : State) :
    live f s = .next (if s.held then s else f s) := rfl

/-! ### Holds (R126, R197) -/

/-- The part is held exactly while one of the two inputs holds it. -/
theorem held_iff (s : State) : s.held = true ↔ s.hold.resetLow = true ∨ s.hold.supplyLow = true := by
  simp [State.held, Hold.any]

/-- What a release can do: nothing outside a hold, its own input's end while the other holds, and otherwise
the cold reset. -/
theorem releaseHold_cases (release : Release) (s : State) :
    (s.held = false ∧ releaseHold release s = s) ∨
      (s.held = true ∧ (s.hold.released release).any = true ∧
        releaseHold release s = { s with hold := s.hold.released release }) ∨
      (s.held = true ∧ (s.hold.released release).any = false ∧
        releaseHold release s = coldReset (releaseStrap release) s) := by
  cases h : s.held <;> cases h' : (s.hold.released release).any <;> simp [releaseHold, h, h']

/-! ### Sources and relays (R131, R140 to R148) -/

/-- A record that takes a condition is the record that has been handed it. -/
theorem SourceRec.take_eq_handed (cls : AlarmClass) (holds : Bool) (r : SourceRec) :
    r.take cls holds = SourceRec.handed cls holds r := by
  obtain ⟨st, c, n⟩ := r
  cases st <;> cases c <;> cases holds <;> cases cls <;> cases n <;> rfl

/-- A handed condition moves its own source and no other. -/
theorem handCondition_source (i j : Fin 77) (holds : Bool) (s : State) :
    (handCondition i holds s).alarm.sources[j] =
      if j = i then SourceRec.handed (s.policy.cls i) holds s.alarm.sources[i]
      else s.alarm.sources[j] := by
  simp only [handCondition_alarm, fin_getElem_set, SourceRec.take_eq_handed]
  by_cases h : i = j <;> simp [h, eq_comm]

/-- The zone conditions move the zone sources and leave the device sources. -/
theorem handZoneConditions_source (conds : Fin 77 → Bool) (s : State) (i : Fin 77) :
    (handZoneConditions conds s).alarm.sources[i] =
      if i.val < 72 then SourceRec.handed (s.policy.cls i) (conds i) s.alarm.sources[i]
      else s.alarm.sources[i] := by
  simp only [handZoneConditions, fin_getElem_mapFin, SourceRec.take_eq_handed]

/-- An acknowledgement moves the selected sources. -/
theorem acknowledgeSources_source (sel : Fin 77 → Bool) (s : State) (i : Fin 77) :
    (acknowledgeSources sel s).alarm.sources[i] =
      if sel i then s.alarm.sources[i].acknowledge else s.alarm.sources[i] := by
  simp only [acknowledgeSources, fin_getElem_mapFin]

theorem alarmRelayOf_iff (v : Vector SourceRec 77) :
    alarmRelayOf v = true ↔ ∃ i : Fin 77, v[i].state ≠ .normal := by
  simp [alarmRelayOf]

theorem hornRelayOf_iff (p : Policy) (v : Vector SourceRec 77) :
    hornRelayOf p v = true ↔
      ∃ i : Fin 77, p.level i ∈ p.audible ∧ (v[i].state = .raised ∨ v[i].state = .returned) := by
  simp [hornRelayOf, Policy.isAudible, SourceRec.awaitsAck]

/-- The relays follow the sources once they have been evaluated. -/
theorem evalRelays_follow (s : State) : (evalRelays s).relaysFollow := by
  refine ⟨?_, ?_⟩
  · simp [alarmRelayOf_iff]
  · simp [hornRelayOf_iff]

@[simp] theorem evalRelays_sources (s : State) :
    (evalRelays s).alarm.sources = s.alarm.sources := by
  simp only [evalRelays]

/-! ### Replies (R161, R162) -/

/-- A reserved entry that is answered at once leaves the reservations as they were. -/
theorem respond_reserveReply (source echo : Byte) (result : ResultCode) (payload : List Byte) (s : State) :
    respond source echo result payload (reserveReply s) = s.answered source echo result payload := by
  simp [respond, buildResponse, reserveReply, State.answered]

/-! ### Arrivals (R3, R163, R164) -/

/-- A receiver at a command that tells whether a telegram has begun to come in. -/
theorem beginReception_eq_noted (receiving : Bool) (rx : RxState) :
    beginReception receiving rx = rx.noted receiving := by
  cases receiving <;> cases rx <;> rfl


/-- The end of a south reception puts the receiver in HUNT. -/
theorem endReception_south (s : State) :
    endReception .south s = { s with lines := { s.lines with southRx := .hunt } } := rfl

/-- The end of a north reception, with the rate that waited for it. -/
theorem endReception_north (s : State) :
    endReception .north s = { s with lines := northReceptionEnded s.lines } := by
  unfold endReception endNorthReception northReceptionEnded
  cases h : s.lines.northPending <;> simp

/-- With no bank active no supervisor timer runs. -/
theorem restartSilence_unconfigured {s : State} (h : s.control.device = .unconfigured) :
    restartSilence s = s := by
  simp [restartSilence, h]

/-- In PURGE and RUN the silence timer starts again, and SUPERVISOR LOST clears. -/
theorem restartSilence_configured {s : State} (h : s.control.device ≠ .unconfigured) :
    restartSilence s =
      if s.north.supervisorLost = true then
        evalRelays (handCondition sourceSupervisorLost false
          { s with north := { s.north with silence := s.silenceStarted, supervisorLost := false } })
      else { s with north := { s.north with silence := s.silenceStarted } } := by
  cases hd : s.control.device <;> simp_all [restartSilence, setSilence, silenceStart, State.silenceStarted]

/-- What an arrival writes, and what it leaves. -/
theorem restartSilence_frame (s : State) :
    restartSilence s =
      { s with north := (restartSilence s).north, alarm := (restartSilence s).alarm } ∧
      (restartSilence s).north.built = s.north.built ∧
      (restartSilence s).north.reserved = s.north.reserved ∧
      (restartSilence s).north.reports = s.north.reports ∧
      (restartSilence s).north.credits = s.north.credits := by
  by_cases h : s.control.device = .unconfigured
  · simp [restartSilence_unconfigured h]
  · rw [restartSilence_configured h]
    split <;> simp [evalRelays, handCondition]

/-! ### Channel events (R57 to R60) -/

/-- A channel event writes the channel's record and at most one REPORT. -/
theorem channelEvent_frame (ch : Fin 64) (policy : ForwardPolicy) (deadband : Nat) (ev : ChannelEvent)
    (base : ChannelRec) (s : State) :
    channelEvent ch policy deadband ev base s =
      { s with
        store := { s.store with channels := (channelEvent ch policy deadband ev base s).store.channels }
        north := { s.north with reports := (channelEvent ch policy deadband ev base s).north.reports } } := by
  simp only [channelEvent]
  split <;> simp [queueReport, setChannel]

/-- A channel event leaves every other channel's record. -/
theorem channelEvent_other (ch j : Fin 64) (policy : ForwardPolicy) (deadband : Nat) (ev : ChannelEvent)
    (base : ChannelRec) (s : State) (h : j ≠ ch) :
    (channelEvent ch policy deadband ev base s).store.channels[j] = s.store.channels[j] := by
  simp only [channelEvent]
  split <;> simp [queueReport, setChannel, Fin.val_ne_of_ne h.symm]

/-! ### Device state (R119, R125) -/

/-- An entry into a device state puts the PURGE and UNCONFIGURED conditions where it says. -/
theorem setDevice_source (d : DeviceState) (s : State) (i : Fin 77) :
    (setDevice d s).alarm.sources[i] =
      if i = sourcePurge then SourceRec.handed (s.policy.cls i) (d == .purge) s.alarm.sources[i]
      else if i = sourceUnconfigured then
        SourceRec.handed (s.policy.cls i) (d == .unconfigured) s.alarm.sources[i]
      else s.alarm.sources[i] := by
  simp only [setDevice, handCondition_source, handCondition_policy, evalInterlock_policy,
    evalInterlock_alarm]
  by_cases h : i = sourcePurge
  · subst h; simp [show sourcePurge ≠ sourceUnconfigured by decide, State.policy]
  · by_cases h2 : i = sourceUnconfigured
    · subst h2; simp [h, State.policy]
    · simp [h, h2]

/-- R112, R119: a device state evaluates the interlock with the records as they stand. -/
@[simp] theorem setDevice_alloc (d : DeviceState) (s : State) :
    (setDevice d s).alloc = { s.alloc with inhibit := interlockOf d s.tables s.zones } := by
  simp only [setDevice, handCondition_alloc, evalInterlock_alloc, State.tables]

/-- An entry into PURGE is a cycle start with the purge timer, the silence timer and the tach counts set. -/
theorem enterPurge_fields (s : State) :
    (enterPurge s).control =
        { device := .purge, purgeTimer := some s.site.purgeTime, ready := false } ∧
      (enterPurge s).pwm = { s.pwm with tach := Vector.replicate 4 0 } ∧
      (enterPurge s).converter = conversionList s.tables ∧
      (enterPurge s).north = { s.north with silence := silenceStart s.site.silence } ∧
      (enterPurge s).lines = s.lines ∧ (enterPurge s).banks = s.banks ∧
      (enterPurge s).store = s.store ∧ (enterPurge s).zones = s.zones ∧
      (enterPurge s).relayQueue = s.relayQueue := by
  simp [enterPurge]

end Sys2Proof.Machine
end

