-- ==== Sys2Proof/Laws/Close.lean ====
section
/-! SUPPORT. When a close is due, and what its work writes and leaves. -/

namespace Sys2Proof.Machine

/-! ### Due scan entries (R16, R17, R32) -/

theorem entryDue_iff (s : State) (i : Nat) :
    entryDue s.tables s.scan.cycle i = true ↔ s.isDue i := by
  simp [entryDue, State.isDue, and_assoc]

/-- No due entry is left exactly when the scan of the cycle is done. -/
theorem dueEntry_eq_none_iff (s : State) : s.dueEntry = none ↔ s.scanDone := by
  unfold State.dueEntry dueFrom State.scanDone
  cases s.scan.scanPos with
  | none => simp
  | some pos =>
    simp only [List.find?_eq_none, List.mem_range, Bool.and_eq_true, decide_eq_true_eq, not_and,
      Option.some.injEq, forall_eq', entryDue_iff]
    exact ⟨fun h i hp hi => h i hi hp, fun h i hi hp => h i hp hi⟩

/-- R20: the close is due in a part out of reset. -/
theorem closeReady_iff (s : State) : s.closeReady ↔ s.held = false ∧ closeDue s = true := by
  simp only [State.closeReady, closeDue, Bool.and_eq_true, bne_iff_ne, Option.isNone_iff_eq_none,
    List.isEmpty_iff, dueEntry_eq_none_iff]
  tauto

/-! ### The work of a close (R20, R99, R132) -/

theorem closeScan_alarm (s : State) :
    (closeScan s).alarm =
      if closeIsLate s then s.alarm else (handCondition sourceOverrun false s).alarm := by
  simp only [closeScan]
  split <;> simp [State.policy]

/-- R20, R21: the Scan Engine's part of a close. -/
theorem closeScan_frame (s : State) :
    closeScan s =
      { s with
        scan := { s.scan with
          cycleOpen := false, scanPos := none, overrun := s.scan.overrun && closeIsLate s }
        alarm := (closeScan s).alarm } := by
  simp only [closeScan]
  split <;> rfl

/-- The close's work on the fans leaves everything but the fans, the zones' shortfall and the PWM Unit. -/
theorem allocatorWork_frame (s : State) :
    allocatorWork s =
      { s with
        zones := (allocatorWork s).zones, alloc := (allocatorWork s).alloc
        pwm := (allocatorWork s).pwm } := by
  ext1 <;> simp [allocatorWork]

theorem settleUnclassified_frame (s : State) :
    settleUnclassified s =
      { s with
        store := { s.store with unclassifiedMark := false }, alarm := (settleUnclassified s).alarm } := by
  simp only [settleUnclassified]
  split <;> rfl

/-- The work of a close writes the scan, the zones, the fans, the PWM Unit, the Alarm Unit and the
unclassified mark, and nothing else. -/
theorem closeWork_frame (s : State) :
    closeWork s =
      { s with
        scan := { s.scan with
          cycleOpen := false, scanPos := none, overrun := s.scan.overrun && closeIsLate s }
        store := { s.store with unclassifiedMark := false }
        zones := (closeWork s).zones, alloc := (closeWork s).alloc, pwm := (closeWork s).pwm
        alarm := (closeWork s).alarm } := by
  have h : closeScan s = { s with
      scan := { s.scan with
        cycleOpen := false, scanPos := none, overrun := s.scan.overrun && closeIsLate s }
      alarm := (closeScan s).alarm } := closeScan_frame s
  unfold closeWork
  generalize hz : evaluateZones (closeScan s) = z
  rw [settleUnclassified_frame]
  subst hz
  simp only [evalRelays, takeZoneConditions, handZoneConditions]
  rw [allocatorWork_frame]
  simp only [evaluateZones]
  rw [h]

/-! ### Zones and fans after the work of a close -/

/-- The zones after the work of a close are those the allocation leaves. -/
theorem closeWork_zones (s : State) :
    (closeWork s).zones = (allocateZones (sampleLocalFans (evaluateZones (closeScan s)))).zones := by
  unfold closeWork
  rw [settleUnclassified_frame]
  simp [allocatorWork]

/-- The fans after the work of a close are those the work on the flags leaves. -/
theorem closeWork_alloc (s : State) :
    (closeWork s).alloc =
      { fans := (workFlags (commandFans (allocateZones (sampleLocalFans (evaluateZones (closeScan s)))))).alloc.fans
        inhibit := interlockOf s.control.device s.tables (closeWork s).zones } := by
  rw [closeWork_zones]
  unfold closeWork
  rw [settleUnclassified_frame, closeScan_frame]
  simp [allocatorWork, State.tables]

/-- The PWM Unit after the work of a close is that which the new commands leave. -/
theorem closeWork_pwm (s : State) :
    (closeWork s).pwm =
      (commandFans (allocateZones (sampleLocalFans (evaluateZones (closeScan s))))).pwm := by
  unfold closeWork
  rw [settleUnclassified_frame]
  simp [allocatorWork]

theorem closeScan_tables (s : State) : (closeScan s).tables = s.tables := by
  rw [closeScan_frame]; simp only [State.tables]

theorem allocateZones_zone (s : State) (z : Fin 8) :
    (allocateZones s).zones[z] =
      if (zoneOf s.tables z).enable = true then
        { s.zones[z] with shortfall := (allocateZone s.tables s.alloc.fans z s.zones[z]).2 }
      else s.zones[z] := by
  simp only [allocateZones, fin_getElem_mapFin, zoneAllocation, z.isLt, dite_true]
  by_cases h : (zoneOf s.tables z).enable = true <;> simp [h]

/-- R69, R99: a zone's record after the work of a close. -/
theorem closeWork_zone (s : State) (z : Fin 8) :
    (closeWork s).zones[z] =
      if (zoneOf s.tables z).enable = true then
        { evaluateZone s.tables s.store.channels z s.alarm.sources[spillSource z].state s.zones[z] with
          shortfall := (closeWork s).zones[z].shortfall }
      else s.zones[z] := by
  have spill : (closeScan s).alarm.sources[spillSource z] = s.alarm.sources[spillSource z] := by
    rw [closeScan_alarm]
    split
    · rfl
    · rw [handCondition_source, if_neg]
      rw [Fin.ext_iff]
      simp only [spillSource, zoneSource, sourceOverrun, Fin.coe_ofNat_eq_mod]
      omega
  have tables := closeScan_tables s
  have store : (closeScan s).store = s.store := by rw [closeScan_frame]
  have zones : (closeScan s).zones = s.zones := by rw [closeScan_frame]
  rw [closeWork_zones, allocateZones_zone]
  simp only [sampleLocalFans_tables, evaluateZones_tables, tables, sampleLocalFans_zones]
  by_cases h : (zoneOf s.tables z).enable = true
  · simp only [h, if_true, evaluateZones, fin_getElem_mapFin, tables, store, zones, spill]
  · simp only [h, evaluateZones, fin_getElem_mapFin, tables, store, zones]
    simp

/-! ### The close as a command -/

/-- A due close runs the close. -/
theorem exec_cycleClose_of_ready {s : State} (h : s.closeReady) :
    exec .cycleClose s = .next (closeCycle s) := by
  obtain ⟨held, due⟩ := (closeReady_iff s).1 h
  simp [exec, execCycleClose, live, held, due]

/-- A close that completes no swap and ends no purge is its work, and after a late one a cycle start. -/
theorem closeCycle_of_plain {s : State} (h : s.plainClose) :
    closeCycle s = if closeIsLate s then cycleStart (closeWork s) else closeWork s := by
  obtain ⟨-, swap, purge⟩ := h
  have hs : closeSwap (closeWork s) = closeWork s := by
    unfold closeSwap
    rw [show (closeWork s).banks = s.banks by rw [closeWork_frame]]
    split
    · exact absurd ‹_› swap
    · rfl
  have hp : closePurge (closeWork s) = closeWork s := by
    unfold closePurge
    rw [show (closeWork s).control = s.control by rw [closeWork_frame]]
    split
    · exact absurd ⟨‹_›, ‹_›⟩ purge
    · rfl
  simp only [closeCycle, hs, hp]

end Sys2Proof.Machine
end

