-- ==== Sys2Proof/Laws/Memory.lean ====
section
/-! SUPPORT. What a read of a bank's byte gives after a write, and that writes keep the canonical form
and stay where they are told. -/

namespace Sys2Proof.Machine

/-! ### Reads after writes -/

theorem Memory.wfFrom_mono {j k : Nat} (h : j ≤ k) (m : Memory) (wf : Memory.wfFrom k m = true) :
    Memory.wfFrom j m = true := by
  cases m with
  | nil => rfl
  | cons c m =>
    simp only [Memory.wfFrom, Bool.and_eq_true, decide_eq_true_eq] at wf ⊢
    exact ⟨⟨by omega, wf.1.2⟩, wf.2⟩

/-- A byte below every cell reads 0. -/
theorem Memory.read_below {k : Nat} (m : Memory) (wf : Memory.wfFrom k m = true) {a : Nat} (h : a < k) :
    m.read a = 0#8 := by
  induction m generalizing k with
  | nil => rfl
  | cons c m ih =>
    simp only [Memory.wfFrom, Bool.and_eq_true, decide_eq_true_eq] at wf
    rw [Memory.read, if_neg (by omega)]
    exact ih wf.2 (by omega)

/-- Reading after a write: the byte written, and every other byte as before. -/
theorem Memory.read_write {j : Nat} (m : Memory) (wf : Memory.wfFrom j m = true) (k : Nat) (v : Byte)
    (a : Nat) : (m.write k v).read a = if a = k then v else m.read a := by
  induction m generalizing j with
  | nil => by_cases h : v = 0#8 <;> by_cases ha : a = k <;> simp [Memory.write, Memory.read, h, ha]
  | cons c m ih =>
    obtain ⟨b, w⟩ := c
    simp only [Memory.wfFrom, Bool.and_eq_true, decide_eq_true_eq] at wf
    obtain ⟨⟨-, -⟩, tail⟩ := wf
    have low : ∀ x, x ≤ b → Memory.read m x = 0#8 := fun x hx => Memory.read_below m tail (by omega)
    unfold Memory.write
    by_cases h1 : k < b
    · by_cases hv : v = 0#8
      · by_cases ha : a = k
        · simp [h1, hv, ha, Memory.read, Nat.ne_of_lt h1, low k (by omega)]
        · simp [h1, hv, ha]
      · simp [h1, hv, Memory.read]
    · by_cases h2 : k = b
      · subst h2
        by_cases hv : v = 0#8
        · by_cases ha : a = k
          · simp [hv, ha, low k (by omega)]
          · simp [hv, ha, Memory.read]
        · by_cases ha : a = k <;> simp [hv, ha, Memory.read]
      · simp only [if_neg h1, if_neg h2, Memory.read, ih tail]
        by_cases ha : a = b
        · have hk : a ≠ k := by omega
          simp [ha, show ¬ b = k by omega]
        · simp [ha]

/-! ### The canonical form -/

theorem Memory.wfFrom_write {j : Nat} (m : Memory) (wf : Memory.wfFrom j m = true) (k : Nat) (v : Byte)
    (h : j ≤ k) : Memory.wfFrom j (m.write k v) = true := by
  induction m generalizing j with
  | nil => by_cases hv : v = 0#8 <;> simp [Memory.write, Memory.wfFrom, hv, h]
  | cons c m ih =>
    obtain ⟨b, w⟩ := c
    have wf' := wf
    simp only [Memory.wfFrom, Bool.and_eq_true, decide_eq_true_eq, bne_iff_ne] at wf
    obtain ⟨⟨hb, hw⟩, tail⟩ := wf
    unfold Memory.write
    by_cases h1 : k < b
    · by_cases hv : v = 0#8
      · simpa [h1, hv] using wf'
      · simp [h1, hv, Memory.wfFrom, h, hw, tail]
    · by_cases h2 : k = b
      · subst h2
        by_cases hv : v = 0#8
        · simpa [hv] using Memory.wfFrom_mono (by omega) m tail
        · simp [hv, Memory.wfFrom, h, tail]
      · simp [h1, h2, Memory.wfFrom, hb, hw]
        exact ih tail (by omega)

/-- A write keeps the canonical form. -/
theorem Memory.wf_write (m : Memory) (k : Nat) (v : Byte) (wf : m.wf = true) : (m.write k v).wf = true :=
  Memory.wfFrom_write m wf k v (Nat.zero_le k)

/-- A run of writes keeps the canonical form. -/
theorem Memory.wf_writeBytes (vs : List Byte) (m : Memory) (k : Nat) (wf : m.wf = true) :
    (m.writeBytes k vs).wf = true := by
  induction vs generalizing m k with
  | nil => exact wf
  | cons v vs ih => exact ih _ _ (Memory.wf_write m k v wf)

/-- Reading after a run of writes. -/
theorem Memory.read_writeBytes (vs : List Byte) (m : Memory) (k a : Nat) (wf : m.wf = true) :
    (m.writeBytes k vs).read a =
      if k ≤ a ∧ a < k + vs.length then vs.getD (a - k) 0#8 else m.read a := by
  induction vs generalizing m k with
  | nil => simp [Memory.writeBytes]
  | cons v vs ih =>
    rw [Memory.writeBytes, ih _ _ (Memory.wf_write m k v wf), Memory.read_write m wf]
    by_cases h : a = k
    · subst h; simp
    · by_cases h1 : k + 1 ≤ a ∧ a < k + 1 + vs.length
      · have : a - k = (a - (k + 1)) + 1 := by omega
        rw [if_pos h1, if_pos ⟨by omega, by simp only [List.length_cons]; omega⟩, this]
        simp
      · rw [if_neg h1, if_neg h, if_neg]
        simp only [List.length_cons]
        omega

/-- A write lists no cell but the ones listed and the one written. -/
theorem Memory.mem_write {m : Memory} {k : Nat} {v : Byte} {c : Host.Cell} (h : c ∈ m.write k v) :
    c ∈ m ∨ c = (k, v) := by
  induction m with
  | nil =>
    simp only [Memory.write] at h
    split at h <;> simp_all
  | cons d m ih =>
    obtain ⟨b, w⟩ := d
    simp only [Memory.write] at h
    split at h
    · split at h <;> simp_all
      tauto
    · split at h
      · split at h <;> simp_all
        tauto
      · rcases List.mem_cons.1 h with h | h
        · exact .inl (h ▸ List.mem_cons_self ..)
        · rcases ih h with h | h
          · exact .inl (List.mem_cons_of_mem _ h)
          · exact .inr h

/-- A run of writes that ends by `n` lists no cell from `n` on. -/
theorem Memory.inside_writeBytes {n : Nat} (vs : List Byte) (m : Memory) (k : Nat)
    (inside : ∀ c ∈ m, c.1 < n) (h : k + vs.length ≤ n) : ∀ c ∈ m.writeBytes k vs, c.1 < n := by
  induction vs generalizing m k with
  | nil => exact inside
  | cons v vs ih =>
    refine ih _ _ (fun c hc => ?_) (by simp at h ⊢; omega)
    rcases Memory.mem_write hc with hc | rfl
    · exact inside c hc
    · simp at h; show k < n; omega

end Sys2Proof.Machine
end

