-- ==== Sys2Proof/Laws/Requests.lean ====
section
/-! SUPPORT. What each request, each screening and each arrival leaves as it was. -/

namespace Sys2Proof.Machine

/-! ### Requests -/

/-- A RESPONSE writes the reply queue alone. -/
theorem respond_frame (source echo : Byte) (result : ResultCode) (payload : List Byte) (s : State) :
    respond source echo result payload s =
      { s with north := { s.north with
          reserved := s.north.reserved - 1
          built := s.north.built ++ [{ source, echo, result, payload, mark := .plain }] } } := rfl

/-- A TABLE WRITE writes a bank and the reply queue. -/
theorem serveTableWrite_frame (fields : List Byte) (s : State) :
    serveTableWrite fields s =
      { s with banks := (serveTableWrite fields s).banks, north := (serveTableWrite fields s).north } := by
  simp only [serveTableWrite]
  repeat' split
  all_goals rfl

theorem serveTableRead_frame (fields : List Byte) (s : State) :
    serveTableRead fields s = { s with north := (serveTableRead fields s).north } := by
  simp only [serveTableRead]
  repeat' split
  all_goals rfl

/-- An ACTIVATE writes the Bank Manager's state and the reply queue. -/
theorem serveActivate_frame (fields : List Byte) (s : State) :
    serveActivate fields s =
      { s with
        banks := { s.banks with state := (serveActivate fields s).banks.state }
        north := (serveActivate fields s).north } := by
  simp only [serveActivate]
  repeat' split
  all_goals rfl

/-- An ACKNOWLEDGE writes the Alarm Unit and the reply queue. -/
theorem serveAcknowledge_frame (fields : List Byte) (s : State) :
    serveAcknowledge fields s =
      { s with alarm := (serveAcknowledge fields s).alarm, north := (serveAcknowledge fields s).north } := by
  simp only [serveAcknowledge]
  repeat' split
  all_goals simp [respondOwn, respond, buildResponse, evalRelays, acknowledgeSources]

theorem serveStatus_frame (fields : List Byte) (s : State) :
    serveStatus fields s = { s with north := (serveStatus fields s).north } := by
  simp only [serveStatus]
  repeat' split
  all_goals rfl

theorem serveReadChannels_frame (fields : List Byte) (s : State) :
    serveReadChannels fields s = { s with north := (serveReadChannels fields s).north } := by
  simp only [serveReadChannels]
  repeat' split
  all_goals rfl

theorem serveReadZone_frame (fields : List Byte) (s : State) :
    serveReadZone fields s = { s with north := (serveReadZone fields s).north } := by
  simp only [serveReadZone]
  repeat' split
  all_goals rfl

theorem serveReadFan_frame (fields : List Byte) (s : State) :
    serveReadFan fields s = { s with north := (serveReadFan fields s).north } := by
  simp only [serveReadFan]
  repeat' split
  all_goals rfl

/-- A RESTART writes the Bank Manager's state and mark and the reply queue. -/
theorem serveRestart_frame (fields : List Byte) (s : State) :
    serveRestart fields s =
      { s with
        banks := { s.banks with
          state := (serveRestart fields s).banks.state
          restartPending := (serveRestart fields s).banks.restartPending }
        north := (serveRestart fields s).north } := by
  simp only [serveRestart]
  split
  · cases h : s.banks.state <;> simp [abortActivation, h, respondOwn, respond, buildResponse]
  · rfl

/-- A request writes the Bank Manager, the Alarm Unit and the North Link Unit alone. -/
theorem serveRequest_frame (payload : List Byte) (s : State) :
    serveRequest payload s =
      { s with
        banks := (serveRequest payload s).banks
        alarm := (serveRequest payload s).alarm
        north := (serveRequest payload s).north } := by
  unfold serveRequest
  repeat' split
  · rfl
  · rw [serveTableWrite_frame]
  · rw [serveTableRead_frame]
  · rw [serveActivate_frame]
  · rw [serveAcknowledge_frame]
  · rw [serveStatus_frame]
  · rw [serveReadChannels_frame]
  · rw [serveReadZone_frame]
  · rw [serveReadFan_frame]
  · rw [serveRestart_frame]
  · rfl

/-! ### Telegrams to field nodes -/

/-- A screening writes the relay queue and the reply queue. -/
theorem screenCandidate_frame (node : Byte) (kind : RelayKind) (payload : List Byte) (s : State) :
    screenCandidate node kind payload s =
      { s with
        relayQueue := (screenCandidate node kind payload s).relayQueue
        north := (screenCandidate node kind payload s).north } := by
  unfold screenCandidate
  split <;> rfl

/-- A DRIVE SET writes a fan record, the relay queue and the reply queue. -/
theorem takeDriveSet_frame (node speed : Byte) (s : State) :
    takeDriveSet node speed s =
      { s with
        alloc := { s.alloc with fans := (takeDriveSet node speed s).alloc.fans }
        relayQueue := (takeDriveSet node speed s).relayQueue
        north := (takeDriveSet node speed s).north } := by
  unfold takeDriveSet
  repeat' split
  · rfl
  · rfl
  · rfl
  · rw [screenCandidate_frame]

/-! ### Arrivals -/

/-- An arrived north telegram writes the lines, the fan records, the Alarm Unit, the North Link Unit, the
relay queue and the Bank Manager, and nothing else. -/
theorem receiveNorth_frame (t : Telegram) (s : State) :
    receiveNorth t s =
      { s with
        lines := (receiveNorth t s).lines
        alloc := { s.alloc with fans := (receiveNorth t s).alloc.fans }
        alarm := (receiveNorth t s).alarm
        north := (receiveNorth t s).north
        relayQueue := (receiveNorth t s).relayQueue
        banks := (receiveNorth t s).banks } := by
  have restart : ∀ s : State, restartSilence s =
      { s with north := (restartSilence s).north, alarm := (restartSilence s).alarm } :=
    fun s => (restartSilence_frame s).1
  have ended : ∀ s : State, endReception .north s = { s with lines := (endReception .north s).lines } :=
    fun s => rfl
  have own : ∀ s : State, dispatchOwn t s =
      { s with
        banks := (dispatchOwn t s).banks, alarm := (dispatchOwn t s).alarm
        north := (dispatchOwn t s).north } := by
    intro s
    unfold dispatchOwn
    split
    · rw [serveRequest_frame]
    · rfl
  have node : ∀ s : State, dispatchNode t s =
      { s with
        alloc := { s.alloc with fans := (dispatchNode t s).alloc.fans }
        relayQueue := (dispatchNode t s).relayQueue
        north := (dispatchNode t s).north } := by
    intro s
    unfold dispatchNode
    split
    · rw [takeDriveSet_frame]
    · rw [screenCandidate_frame]
    · rfl
  have arrive : ∀ s : State, arriveNorth t s =
      { s with
        alloc := { s.alloc with fans := (arriveNorth t s).alloc.fans }
        alarm := (arriveNorth t s).alarm
        north := (arriveNorth t s).north
        relayQueue := (arriveNorth t s).relayQueue
        banks := (arriveNorth t s).banks } := by
    intro s
    simp only [arriveNorth]
    repeat' split
    · rw [restart]
    · rw [own, reserveReply, restart]
    · rw [node, reserveReply, restart]
    · rfl
  unfold receiveNorth
  repeat' split
  · rfl
  · rw [arrive, ended]
  · rfl

/-- A telegram received on the south loop ends the reception, and hands on what answers the transaction. -/
theorem receiveSouth_cases (t : Telegram) (take : Transaction → State → State) (s : State) :
    (s.lines.southRx = .hunt ∧ receiveSouth t take s = s) ∨
      (s.lines.southRx ≠ .hunt ∧ passesR9 .south t = true ∧
        ∃ tr, s.scan.slot = some tr ∧ answersOpen s.scan.slot t = true ∧
          receiveSouth t take s = take tr s.afterReply) ∨
      (s.lines.southRx ≠ .hunt ∧
        (s.scan.slot = none ∨ passesR9 .south t = false ∨ answersOpen s.scan.slot t = false) ∧
        receiveSouth t take s = { s with lines := { s.lines with southRx := .hunt } }) := by
  unfold receiveSouth
  cases hrx : s.lines.southRx <;> simp only [reduceCtorEq, false_and, not_false_eq_true, ne_eq,
    true_and, false_or, not_true_eq_false, or_false]
  all_goals
    cases hs : s.scan.slot with
    | none => simp [endReception]
    | some tr =>
      cases h1 : passesR9 .south t <;> cases h2 : answersOpen (some tr) t <;>
        simp [endReception, closeSlot, State.afterReply]

end Sys2Proof.Machine
end

