-- ==== Sys2Proof/Laws/SouthLoop.lean ====
section
/-! SUPPORT. When the south loop is free, what its arbiter finds, and what it leaves of stray flags. -/

namespace Sys2Proof.Machine

/-- R27: the loop of a part out of reset is free. -/
theorem southLoopFree_iff (s : State) : s.southLoopFree ↔ s.held = false ∧ loopFree s = true := by
  simp only [State.southLoopFree, loopFree, Bool.and_eq_true, bne_iff_ne, Option.isNone_iff_eq_none,
    beq_iff_eq]
  tauto

/-- R28 step 1: the arbiter finds no fan to serve. -/
theorem flaggedFan_eq_none_iff (s : State) : flaggedFan s = none ↔ s.noFanFlagged := by
  simp [State.noFanFlagged, flaggedFan, FanEntry.enabledRemote]

/-- R28 step 1, R29: the fan the arbiter serves is the lowest flagged enabled REMOTE fan. -/
theorem flaggedFan_eq_some_of_lowest {s : State} {f : Fin 16} (flag : s.alloc.fans[f].flag = true)
    (remote : (fanOf s.tables f).enable = true ∧ (fanOf s.tables f).remote = true)
    (lowest : ∀ g : Fin 16, g < f → s.alloc.fans[g].flag = true →
      ¬ ((fanOf s.tables g).enable = true ∧ (fanOf s.tables g).remote = true)) :
    flaggedFan s = some f := by
  rw [flaggedFan, List.find?_eq_some_iff_getElem]
  refine ⟨by simpa [FanEntry.enabledRemote, remote] using flag, f.val, by simp, by simp, fun j hj => ?_⟩
  have h := lowest ⟨j, by omega⟩ hj
  simp only [FanEntry.enabledRemote, List.getElem_finRange]
  by_contra c
  simp only [Bool.not_eq_true, Bool.not_eq_false', Bool.and_eq_true] at c
  simp at c
  exact h c.1 c.2

/-- R29: a choice clears the flags of the fans that are not enabled REMOTE fans. -/
theorem clearStrayFlags_eq (s : State) : clearStrayFlags s = s.strayFlagsCleared := by
  simp only [clearStrayFlags, State.strayFlagsCleared, FanEntry.enabledRemote, mapFin, Bool.and_eq_true]

/-- An enabled REMOTE fan keeps its record when the stray flags are cleared. -/
theorem strayFlagsCleared_fan {s : State} {f : Fin 16}
    (remote : (fanOf s.tables f).enable = true ∧ (fanOf s.tables f).remote = true) :
    s.strayFlagsCleared.alloc.fans[f] = s.alloc.fans[f] := by
  simp [State.strayFlagsCleared, remote]

/-- R16: the scan list is no longer than the Scan Table. -/
theorem scanListLength_le (m : Memory) : scanListLength m ≤ 64 := by
  unfold scanListLength
  cases h : (List.range 64).find? fun i => (scanOf m i).node == 0#8 with
  | none => simp
  | some i => simpa using (List.mem_range.1 (List.mem_of_find?_eq_some h)).le

/-- R32: the due entry the arbiter finds is the first from the scan position on. -/
theorem dueEntry_eq_some_of_first {s : State} {pos i : Nat} (position : s.scan.scanPos = some pos)
    (from_ : pos ≤ i) (due : s.isDue i) (first : ∀ j, pos ≤ j → j < i → ¬ s.isDue j) :
    s.dueEntry = some i := by
  have bound : i < 64 := Nat.lt_of_lt_of_le due.1 (scanListLength_le s.tables)
  rw [State.dueEntry, position]
  simp only [dueFrom]
  rw [List.find?_eq_some_iff_getElem]
  refine ⟨by simp [from_, (entryDue_iff s i).2 due], i, by simpa using bound, by simp, fun j hj => ?_⟩
  simp only [List.getElem_range, Bool.not_eq_true', Bool.and_eq_false_iff, decide_eq_false_iff_not]
  by_cases h : pos ≤ j
  · exact .inr (Bool.eq_false_iff.2 fun c => first j h hj ((entryDue_iff s j).1 c))
  · exact .inl h

end Sys2Proof.Machine
end

