-- ==== Sys2Proof/Tests/Slice0.lean ====
section
/-! SUPPORT. The model's own tests: ill-formed commands, one or two steps for each command with figures the
spec works out, and for every claim with hypotheses a concrete case that meets them. -/

namespace Sys2Proof.Tests

set_option Elab.async false

open Sys2Proof Sys2Proof.Machine

/-! ### Hall B's bank (10) -/

/-- Hall B's Site record (10, the hall and its tables), by the layout of 11. -/
def hallSite : Memory :=
  [(0, 2#8), (1, 2#8), (2, 3#8), (3, 232#8), (4, 8#8), (5, 1#8), (6, 244#8), (7, 2#8), (8, 30#8),
    (10, 60#8), (11, 1#8), (12, 2#8), (13, 4#8), (14, 3#8), (15, 2#8), (16, 1#8), (18, 3#8),
    (19, 12#8), (21, 40#8), (23, 40#8), (25, 40#8), (27, 40#8)]

/-- Hall B's Window Table (10, the hall and its tables), by the layout of 11. -/
def hallWindow : Memory :=
  [(28, 17#8), (29, 32#8), (30, 252#8), (31, 20#8), (33, 10#8), (34, 17#8), (35, 36#8),
    (36, 252#8), (37, 24#8), (39, 20#8), (40, 7#8), (41, 46#8), (42, 254#8), (43, 6#8)]

/-- Hall B's Channel Table (10, the hall and its tables), by the layout of 11. -/
def hallChannel : Memory :=
  [(444, 9#8), (445, 2#8), (446, 188#8), (447, 15#8), (448, 160#8), (449, 3#8), (450, 51#8),
    (451, 1#8), (452, 244#8), (453, 3#8), (460, 9#8), (461, 2#8), (462, 188#8), (463, 15#8),
    (464, 160#8), (465, 3#8), (466, 51#8), (467, 1#8), (468, 244#8), (469, 3#8), (476, 9#8),
    (477, 2#8), (478, 188#8), (479, 15#8), (480, 160#8), (481, 3#8), (482, 51#8), (483, 1#8),
    (484, 244#8), (485, 3#8), (492, 10#8), (494, 100#8), (495, 15#8), (496, 160#8), (498, 200#8),
    (499, 4#8), (500, 226#8), (501, 3#8), (502, 1#8), (503, 44#8), (508, 11#8), (510, 100#8),
    (511, 15#8), (512, 255#8), (514, 200#8), (515, 8#8), (517, 3#8), (521, 120#8), (523, 250#8),
    (524, 11#8), (526, 100#8), (527, 15#8), (528, 255#8), (530, 200#8), (531, 8#8), (533, 3#8),
    (537, 120#8), (539, 250#8), (540, 11#8), (542, 100#8), (543, 15#8), (544, 255#8), (546, 200#8),
    (547, 8#8), (549, 3#8), (553, 120#8), (555, 250#8)]

/-- Hall B's Zone Table (10, the hall and its tables), by the layout of 11. -/
def hallZone : Memory :=
  [(1192, 1#8), (1193, 2#8), (1194, 2#8), (1196, 40#8), (1198, 100#8), (1200, 200#8), (1201, 10#8),
    (1203, 30#8), (1204, 55#8), (1206, 120#8), (1207, 1#8), (1208, 44#8), (1209, 2#8),
    (1210, 88#8), (1211, 1#8), (1212, 144#8), (1213, 20#8)]

/-- Hall B's Fan Table (10, the hall and its tables), by the layout of 11. -/
def hallFan : Memory :=
  [(1396, 3#8), (1397, 2#8), (1399, 46#8), (1400, 1#8), (1401, 44#8), (1404, 3#8), (1405, 2#8),
    (1406, 4#8), (1408, 3#8), (1409, 2#8), (1411, 47#8), (1412, 1#8), (1413, 44#8), (1416, 3#8),
    (1417, 2#8), (1418, 4#8)]

/-- Hall B's Scan Table (10, the hall and its tables), by the layout of 11. -/
def hallScan : Memory :=
  [(1516, 32#8), (1517, 17#8), (1518, 1#8), (1519, 33#8), (1520, 17#8), (1521, 1#8), (1522, 34#8),
    (1523, 17#8), (1524, 1#8), (1525, 35#8), (1526, 17#8), (1527, 1#8), (1528, 36#8), (1529, 17#8),
    (1530, 1#8), (1531, 37#8), (1532, 17#8), (1533, 1#8), (1534, 38#8), (1535, 17#8), (1536, 1#8),
    (1537, 46#8), (1538, 33#8), (1539, 4#8), (1540, 47#8), (1541, 33#8), (1542, 4#8)]

/-- Hall B's Screen Table (10, the hall and its tables), by the layout of 11. -/
def hallScreen : Memory :=
  [(1708, 23#8), (1709, 88#8), (1710, 252#8), (1712, 13#8), (1713, 64#8), (1714, 224#8)]

/-- Hall B's Alarm Policy (10, the hall and its tables), by the layout of 11. -/
def hallAlarm : Memory :=
  [(1740, 1#8), (1741, 6#8), (1742, 7#8), (1743, 1#8), (1744, 6#8), (1745, 6#8), (1746, 2#8),
    (1747, 4#8), (1748, 4#8), (1749, 1#8), (1752, 1#8)]

/-- Hall B's bank. -/
def hall : Memory :=
  hallSite ++ hallWindow ++ hallChannel ++ hallZone ++ hallFan ++ hallScan ++ hallScreen ++ hallAlarm

/-! ### States the tests start from -/

/-- Out of reset, UNCONFIGURED, both lines idle and the north transmitter free. -/
def woken : State :=
  { State.reset with
    lines := { Lines.initial with southRx := .armed, northRx := .armed, northTx := .ready } }

/-- Hall B in RUN, cycle 300 started, nothing waiting. -/
def running : State :=
  { woken with
    scan :=
      { cycle := 300, timer := .running 1000, cycleOpen := true, scanPos := some 0, slot := none,
        interleave := 0, overrun := false }
    alloc := { Allocator.initial with inhibit := false }
    alarm := AlarmUnit.initial
    north := { NorthLink.initial with silence := .running 30 }
    banks := { BankManager.initial with bankA := hall, active := some .a }
    control := { device := .run, purgeTimer := none, ready := true } }

/-- Hall B with a transaction open and its window running. -/
def awaiting (node : Byte) (purpose : Purpose) : State :=
  { running with
    scan := { running.scan with
      slot := some { node, purpose, windowMs := 8, windowBegun := true } } }

/-- Hall B with the transaction's record. -/
def openRecord (node : Byte) (purpose : Purpose) : Transaction :=
  { node, purpose, windowMs := 8, windowBegun := true }

/-- Hall B with its cycle ready to close. -/
def closing : State := { running with scan := { running.scan with scanPos := none } }

/-- A source record in a state, its condition as R131 has it. -/
def source (st : SourceState) (notice : Bool) : SourceRec :=
  { state := st, condition := st == .raised || st == .acked, notice }

/-- Hall B in PURGE, with `seconds` on its timer. -/
def purging (seconds : Nat) : State :=
  { closing with
    alloc := Allocator.initial
    alarm :=
      { sources := AlarmUnit.initial.sources.set 73 (source .raised false)
        alarmOn := true, hornOn := false }
    control := { device := .purge, purgeTimer := some seconds, ready := false } }

/-- A state with alarm source records. -/
def withSource (i : Fin 77) (r : SourceRec) (s : State) : State :=
  { s with alarm := { s.alarm with sources := s.alarm.sources.set i r } }

/-- A state with a fan record. -/
def withFan (f : Fin 16) (r : FanRec) (s : State) : State :=
  { s with alloc := { s.alloc with fans := s.alloc.fans.set f r } }

/-- A state with a channel record, HEALTHY with a value. -/
def withValue (ch : Fin 64) (v : Nat) (s : State) : State :=
  { s with store := { s.store with
      channels := s.store.channels.set ch { ChannelRec.initial with health := .healthy, value := v } } }

/-- The state a command leaves. -/
def after (c : Instr) (s : State) : State :=
  match exec c s with
  | .next t => t
  | .fault _ => s
  | .refused _ => s

/-- The results and payloads of the RESPONSEs built. -/
def replies (s : State) : List (ResultCode × List Byte) := s.north.built.map fun r => (r.result, r.payload)

/-! ### Ill-formed commands are refused by the check (WellFormed) -/

/-- R197: a RESET_N that has not been low, a supply of 3.0 V. -/
theorem test_wellFormed_hold : Instr.wellFormed (.resetHold (.resetLow 0)) = false ∧
    Instr.wellFormed (.resetHold (.supplyAt 3000)) = false := by decide

/-- R9: 48 request fields after the code make a payload of 49. -/
theorem test_wellFormed_requests : (List.map (fun c => Instr.wellFormed c)
    [.tableWrite (List.replicate 48 0#8), .tableRead (List.replicate 48 0#8),
     .activate (List.replicate 48 0#8), .acknowledge (List.replicate 48 0#8),
     .status (List.replicate 48 0#8), .readChannels (List.replicate 48 0#8),
     .readZone (List.replicate 48 0#8), .readFan (List.replicate 48 0#8),
     .restart (List.replicate 48 0#8), .unknownRequest 10#8 (List.replicate 48 0#8)]).all (! ·) := by
  decide

/-- R8, R9: node 0 and node 248 are no field nodes, 49 characters no payload, 3 no head status. -/
theorem test_wellFormed_nodes : Instr.wellFormed (.driveSet 0#8 50#8) = false ∧
    Instr.wellFormed (.command 248#8 []) = false ∧
    Instr.wellFormed (.command 90#8 (List.replicate 49 0#8)) = false ∧
    Instr.wellFormed (.reading 0#8 17#8 3#8 0#16) = false ∧
    Instr.wellFormed (.answer 0#8 90#8 (List.replicate 49 0#8)) = false := by decide

/-- R3, R4: a length of 48 and a flag abandon nothing; a frame without its flag is no telegram. -/
theorem test_wellFormed_lines : Instr.wellFormed (.telegramAbandoned .south (.badLength 48#8)) = false ∧
    Instr.wellFormed (.telegramAbandoned .north (.nonFlag 0xC3#8)) = false ∧
    Instr.wellFormed (.discardedTelegram .south [0#8, 0#8, 17#8, 17#8, 0#8, 0#8, 0#8]) = false := by
  decide

/-- R13, R177: a payload of 49, a REQUEST with no code, a REQUEST to node 0, a code that names one of the
nine. -/
theorem test_wellFormed_dispatch :
    Instr.wellFormed (.dispatchBadRequest (.commandToOwn (List.replicate 49 0#8))) = false ∧
    Instr.wellFormed (.dispatchBadRequest (.requestToNode 17#8 [])) = false ∧
    Instr.wellFormed (.dispatchBadRequest (.requestToNode 0#8 [1#8])) = false ∧
    Instr.wellFormed (.unknownRequest 9#8 []) = false := by decide

/-! ### Codes and figures the spec works out -/

/-- R5: the CRC of "123456789" is 0x29B1. -/
theorem test_crc_check_value :
    crc16 [0x31#8, 0x32#8, 0x33#8, 0x34#8, 0x35#8, 0x36#8, 0x37#8, 0x38#8, 0x39#8] = 0x29B1#16 := by
  decide +kernel

/-- 10: raw 884 gives 8, 909 gives 11, the strip's 1400 gives 366, the monitor's 510 gives 155. -/
theorem test_corrected_values :
    [correctedValue (channelOf hall 22) 884, correctedValue (channelOf hall 20) 909,
      correctedValue (channelOf hall 23) 1400, correctedValue (channelOf hall 25) 510] =
      [8, 11, 366, 155] := by
  decide +kernel

/-- 10: hall B's bank is in canonical form and passes the ten checks. -/
theorem test_hall_passes : hall.wf = true ∧ firstFailedCheck hall = none := by decide +kernel

/-! ### Commands -/

/-- Hall B held in reset. -/
def inHold (hold : Hold) : State := { after (.resetHold (.resetLow 10)) running with hold := hold }

/-- R196, R197, R152: with RESET_N low and the supply out of range, the later of the two releases is the
cold reset; strap 5 gives address 253, and source 72 is RAISED with its flag set. -/
theorem test_coldReset :
    after (.coldReset (.resetHigh 3#3)) (inHold { resetLow := true, supplyLow := true }) =
      inHold { resetLow := false, supplyLow := true } ∧
    (after (.coldReset (.supplyInRange 5#3)) (inHold { resetLow := false, supplyLow := true })).address =
      253#8 ∧
    (after (.coldReset (.resetHigh 5#3)) (inHold { resetLow := true, supplyLow := false })).alarm.sources[72] =
      source .raised true := by decide +kernel

/-- R197, R198: a held part drives every PWM output high and opens CHINH. -/
theorem test_resetHold : pinPwm (after (.resetHold (.resetLow 10)) running) 3 999999 = true ∧
    pinChinh (after (.resetHold (.resetLow 10)) running) = false := by decide +kernel

/-- R127: with an active bank the warm reset enters PURGE in cycle 1. -/
theorem test_warmReset :
    ((after .warmReset { running with banks := { running.banks with warmResetDue := true } }).control,
      (after .warmReset { running with banks := { running.banks with warmResetDue := true } }).scan.cycle) =
      ({ device := .purge, purgeTimer := some 60, ready := false }, 1) := by decide +kernel

/-- R178, R195: the Alarm Policy byte of kind 13 is the image's last. -/
theorem test_tableWrite : (after (.tableWrite [7#8, 13#8, 1#8, 5#8]) woken).banks.bankA = [(1753, 5#8)] ∧
    replies (after (.tableWrite [7#8, 13#8, 1#8, 5#8]) woken) = [(.done, [])] := by decide +kernel

/-- R179, 10: the strip's entry as hall B gives it: SPILL of zone 2, band 100..4000, offset 200, gain
1250, miss limit 3, threshold 300. -/
theorem test_tableRead : replies (after (.tableRead [0#8, 2#8, 23#8, 1#8]) running) =
    [(.done, [1#8, 2#8, 23#8, 10#8, 0#8, 100#8, 15#8, 160#8, 0#8, 200#8, 4#8, 226#8, 3#8, 1#8, 44#8,
      0#8, 0#8, 0#8, 0#8])] := by decide +kernel

/-- R182: the check begins with the CRC carried high byte first, and nothing is answered yet. -/
theorem test_activate : (after (.activate [0x12#8, 0x34#8]) woken).banks.state = .checking 0x1234#16 ∧
    (after (.activate [0x12#8, 0x34#8]) woken).north.built = [] := by decide +kernel

/-- 10, cycle 2: acknowledging source 22 in RETURNED answers a count of 1 and silences the HORN. -/
theorem test_acknowledge :
    replies (after (.acknowledge [0#8, 22#8]) (withSource 22 (source .returned false) running)) =
      [(.done, [1#8])] ∧
    (after (.acknowledge [0#8, 22#8]) (withSource 22 (source .returned false) running)).alarm.hornOn =
      false := by decide +kernel

/-- R181: an UNCONFIGURED part: no bank, IDLE, cycle 0, every zone blind, inhibited, 24 report entries, 3
reply entries and 4 relay entries free, one notice of level 0 that awaits acknowledgement. -/
theorem test_status : replies (after (.status []) woken) =
    [(.done, [0#8, 0#8, 0#8, 0#8, 0#8] ++ List.replicate 8 4#8 ++ [1#8, 24#8, 3#8, 4#8, 1#8, 1#8] ++
      List.replicate 6 0#8)] := by decide +kernel

/-- R61, R180: two channel records at their reset values. -/
theorem test_readChannels : replies (after (.readChannels [20#8, 2#8]) running) =
    [(.done, [20#8, 2#8] ++ List.replicate 20 0#8)] := by decide +kernel

/-- R87, R91: a zone record at its reset values, blind. -/
theorem test_readZone : replies (after (.readZone [2#8]) running) =
    [(.done, [2#8, 16#8] ++ List.replicate 9 0#8)] := by decide +kernel

/-- R114, R180: a fan record at its reset values, duties 100, no setpoint, nothing sent. -/
theorem test_readFan : replies (after (.readFan [6#8, 1#8]) running) =
    [(.done, [6#8, 1#8, 0#8, 0#8, 0#8, 0#8, 0#8, 0#8, 0#8, 0#8, 100#8, 255#8, 100#8, 255#8, 0#8])] := by
  decide +kernel

/-- R189: a RESTART during a check answers ABORTED ahead of its own DONE. -/
theorem test_restart : replies (after (.restart []) { running with
    banks := { running.banks with state := .checking 0#16 }
    north := { running.north with reserved := 1 } }) = [(.aborted, []), (.done, [])] := by decide +kernel

/-- 10: with 67 allocated, speed 60 to node 46 is CLAMPED and fan 6 stays at 67. -/
theorem test_driveSet_clamped :
    replies (after (.driveSet 46#8 60#8) (withFan 6 { FanRec.initial with allocated := 67 } running)) =
      [(.clamped, [])] ∧
    (after (.driveSet 46#8 60#8)
      (withFan 6 { FanRec.initial with allocated := 67 } running)).alloc.fans[6].commanded = 67 := by
  decide +kernel

/-- 10: speed 90 to node 47 is DONE and fan 7 goes to 90. -/
theorem test_driveSet_done :
    replies (after (.driveSet 47#8 90#8) (withFan 7 { FanRec.initial with allocated := 67 } running)) =
      [(.done, [])] ∧
    (after (.driveSet 47#8 90#8)
      (withFan 7 { FanRec.initial with allocated := 67 } running)).alloc.fans[7].commanded = 90 := by
  decide +kernel

/-- 10: a COMMAND to node 90 joins the relay queue, and keeps its reservation. -/
theorem test_command_confirmed : (after (.command 90#8 [1#8]) running).relayQueue =
    [{ node := 90#8, kind := .command, payload := [1#8], mode := .confirmed }] ∧
    (after (.command 90#8 [1#8]) running).north.reserved = 1 := by decide +kernel

/-- 10: with CHARGER INHIBIT asserted, window 0 refuses it. -/
theorem test_command_gated : replies (after (.command 90#8 [1#8])
    { running with alloc := Allocator.initial }) = [(.notPermitted, [])] := by decide +kernel

/-- 10, cycle 1: raw 884 from node 34 makes channel 22 HEALTHY with 8, and is reported. -/
theorem test_reading : (after (.reading 0#8 34#8 0#8 884#16) (awaiting 34#8 .scanPoll)).store.channels[22] =
      { ChannelRec.initial with
        health := .healthy, value := 8, lastRaw := 884, fwdValue := 8, fwdHealth := .healthy } ∧
    (after (.reading 0#8 34#8 0#8 884#16) (awaiting 34#8 .scanPoll)).north.reports.length = 1 := by
  decide +kernel

/-- 10, cycle 406: head status FAULT fails channel 22 at once, with its miss count at 3. -/
theorem test_reading_fault :
    (after (.reading 0#8 34#8 2#8 0#16) (awaiting 34#8 .scanPoll)).store.channels[22].health = .failed ∧
    (after (.reading 0#8 34#8 2#8 0#16) (awaiting 34#8 .scanPoll)).store.channels[22].missCount = 3 := by
  decide +kernel

/-- 10, cycle 312: fault code 9 from node 47 fails fan 7, with fail count 3 and good count 0. -/
theorem test_driveStatus :
    (after (.driveStatus 0#8 47#8 1#8 31#8 9#8) (awaiting 47#8 .scanQuery)).alloc.fans[7] =
      { FanRec.initial with
        health := .failed, failCount := 3
        lastStatus := some { running := true, feedback := 31, faultCode := 9 } } := by decide +kernel

/-- R172: a confirmed relay's ANSWER is carried in a RESPONSE DONE from its node. -/
theorem test_answer : ((after (.answer 0#8 90#8 [7#8, 8#8]) { awaiting 90#8 (.relayConfirmed .command) with
    north := { running.north with reserved := 1 } }).north.built.map fun r => (r.source, r.echo, r.payload)) =
    [(90#8, 0x31#8, [7#8, 8#8])] := by decide +kernel

/-- 10, cycle 401: a missed poll of node 33 makes channel 21 SUSPECT with its value kept. -/
theorem test_replyWindowExpiry :
    (after (.replyWindowExpiry false) (withValue 21 18 (awaiting 33#8 .scanPoll))).store.channels[21] =
      { ChannelRec.initial with health := .suspect, value := 18, missCount := 1, fwdHealth := .suspect
                                fwdValue := 18 } := by decide +kernel

/-- R55, R42: a conversion for a channel of kind NONE only moves the converter on. -/
theorem test_localConversion :
    after (.localConversionComplete 5#12) { running with converter := [0, 3] } =
      { running with converter := [3] } := by decide +kernel

/-- R18, R21: the timer starts cycle 301 once cycle 300 has closed, and overruns before. -/
theorem test_cycleTimerExpiry :
    (after .cycleTimerExpiry { running with scan := { running.scan with cycleOpen := false } }).scan.cycle =
      301 ∧
    (after .cycleTimerExpiry running).alarm.sources[74] = source .raised true := by decide +kernel

/-- 10, close 301: currents of 120, 155 and 5 give Q_gen 185 and a duty of 31, flagged against 20. -/
def close301 : State :=
  after .cycleClose
    (withFan 6 { FanRec.initial with health := .running, commanded := 20, lastSent := some 20 }
      (withFan 7 { FanRec.initial with health := .running, commanded := 20, lastSent := some 20 }
        (withValue 20 8 (withValue 21 8 (withValue 22 8 (withValue 24 120 (withValue 25 155
          (withValue 26 5 closing))))))))

/-- 10, close 301. -/
theorem test_cycleClose_ventilates : close301.zones[2].qGen = 185 ∧ close301.zones[2].qReq = 185 ∧
    close301.alloc.fans[6].commanded = 31 ∧ close301.alloc.fans[7].flag = true ∧
    close301.alloc.inhibit = false := by decide +kernel

/-- 10, close 1: with one head the zone is blind, the fans go to 100 and BLIND sounds the HORN. -/
theorem test_cycleClose_blind : (after .cycleClose (withValue 22 8 closing)).alarm.sources[22] =
      source .raised true ∧
    (after .cycleClose (withValue 22 8 closing)).alarm.hornOn = true ∧
    (after .cycleClose (withValue 22 8 closing)).zones[2].ring = [8] := by decide +kernel

/-- R29, 10: fan 6 before fan 7, with its commanded duty. -/
theorem test_fanDrive : (after .fanDrive (withFan 6 { FanRec.initial with flag := true }
    (withFan 7 { FanRec.initial with flag := true } running))).lines.southTx =
    some { dest := 46#8, source := 0#8, kind := .driveSet, payload := [100#8] } := by decide +kernel

/-- R30: an interleave count of 2 lets the relay go before the due poll. -/
theorem test_relayTransaction : (after .relayTransaction { running with
    scan := { running.scan with interleave := 2 }
    relayQueue := [{ node := 90#8, kind := .command, payload := [1#8], mode := .confirmed }] }).lines.southTx =
    some { dest := 90#8, source := 0#8, kind := .command, payload := [1#8] } := by decide +kernel

/-- R32: entry 0 polls node 32 and the position moves to 1. -/
theorem test_scanTransaction : (after .scanTransaction running).lines.southTx =
      some { dest := 32#8, source := 0#8, kind := .poll, payload := [] } ∧
    (after .scanTransaction running).scan.scanPos = some 1 := by decide +kernel

/-- R2: the pending rate of an idle loop. -/
theorem test_southRateChange : (after .southRateChange { running with
    lines := { running.lines with southPending := some .b38400 } }).lines.southRate = .b38400 := by
  decide +kernel

/-- 10: after the first activation the ALERT of source 72 goes first, and RESPONSE gains a credit. -/
def firstChoice : State :=
  after .northChoice (withSource 72 (source .normal true) (withSource 73 (source .raised true)
    { running with north := { running.north with built :=
        [{ source := 248#8, echo := 3#8, result := .done, payload := [], mark := .plain }] } }))

/-- 10: the first choice after the activation. -/
theorem test_northChoice : firstChoice.lines.northTx =
      .sending
        { dest := 0#8, source := 248#8, kind := .alert,
          payload := [72#8, 255#8, 9#8, 1#8, 0#8, 0#8, 1#8, 44#8] } .plain ∧
    firstChoice.north.credits = { alert := 0, response := 1, report := 0 } := by decide +kernel

/-- R2: the marked RESPONSE's end brings the new rate. -/
theorem test_northTransmissionEnd : (after (.northTransmissionEnd false) { running with
    lines := { running.lines with
      northTx := .sending { dest := 0#8, source := 248#8, kind := .response, payload := [3#8, 0#8] } .endsOldRate
      northPending := .awaitingResponse .b38400 } }).lines.northRate = .b38400 := by decide +kernel

/-- R183 to R185: an all-zero image that carries its own CRC fails check 1, its bit rates being no rates. -/
theorem test_activationCheckEnd : replies (after .activationCheckEnd { woken with
    banks := { woken.banks with state := .checking (crc16 (bankImage [])) } }) =
    [(.checkFailed, [1#8])] := by
  have first : firstFailedCheck [] = some 1 := by decide +kernel
  have image : ({ woken.banks with state := .checking (crc16 (bankImage [])) } :
    BankManager).standbyBank = [] := rfl
  have held : woken.hold.any = false := rfl
  simp [after, exec, execActivationCheckEnd, live, State.held, held, checkEndStep, checkEnd, image, first,
    failActivation, respondOwn, respond, replies, u8]
  rfl

/-- R123, R125: the purge timer's expiry ends PURGE and turns READY on. -/
theorem test_purgeTimerExpiry : (after .purgeTimerExpiry (purging 60)).control =
    { device := .run, purgeTimer := none, ready := true } := by decide +kernel

/-- R165: the expiry drops a setpoint, and fan 6 follows its allocated duty. -/
theorem test_supervisorSilenceExpiry : (after .supervisorSilenceExpiry
    (withFan 6 { FanRec.initial with allocated := 20, manual := some 60, commanded := 60 } running)).alloc.fans[6] =
    { FanRec.initial with allocated := 20, commanded := 20, flag := true } := by decide +kernel

/-- R98: a count of 65535 stays there. -/
theorem test_tachPulse :
    (after (.tachPulse 1) { running with pwm := { running.pwm with tach := #v[0, 65535, 7, 0] } }).pwm.tach =
      #v[0, 65535, 7, 0] ∧
    (after (.tachPulse 2) { running with pwm := { running.pwm with tach := #v[0, 65535, 7, 0] } }).pwm.tach =
      #v[0, 65535, 8, 0] := by decide +kernel

/-- R107: the waiting pair begins at the period's end. -/
theorem test_pwmPeriodEnd : (after (.pwmPeriodEnd 0) { running with pwm := { running.pwm with
    outputs := running.pwm.outputs.set 0 { PwmOutput.initial with next := some (pwmPair 0 40) } } }).pwm.outputs[0] =
    { running := { high := 0, low := 40, period := 40 }, next := none } := by decide +kernel

/-- R3, R7: idle arms the south receiver, and not while the part transmits; idle inside a telegram that an
armed receiver has begun to take in sends it to HUNT. -/
theorem test_lineIdle : (after (.lineIdle (.south false)) State.reset).lines.southRx = .armed ∧
    (after (.lineIdle (.south false)) (after .scanTransaction running)).lines.southRx = .hunt ∧
    (after (.lineIdle (.south true)) running).lines.southRx = .hunt ∧
    (after (.lineIdle (.northReceive true)) woken).lines.northRx = .hunt := by decide +kernel

/-- R4: a length of 49 abandons the telegram. -/
theorem test_telegramAbandoned : (after (.telegramAbandoned .north (.badLength 49#8)) { woken with
    lines := { woken.lines with northRx := .receiving } }).lines.northRx = .hunt := by decide +kernel

/-- R6: a STATUS with a broken CRC reserves and answers nothing. -/
theorem test_discardedTelegram : after (.discardedTelegram .north
    [0xC3#8, 248#8, 0#8, 0x51#8, 1#8, 5#8, 0#8, 0#8]) woken =
    { woken with lines := { woken.lines with northRx := .hunt } } := by decide +kernel

/-- R13: a DRIVE SET to the own address is echoed and refused. -/
theorem test_dispatchBadRequest : ((after (.dispatchBadRequest (.driveSetToOwn 50#8)) woken).north.built.map
    fun r => (r.echo, r.result)) = [(0x22#8, .badRequest)] := by decide +kernel

/-- R177: a code of 0 is refused. -/
theorem test_unknownRequest : ((after (.unknownRequest 0#8 []) woken).north.built.map
    fun r => (r.echo, r.result)) = [(0#8, .badRequest)] := by decide +kernel

/-- R24: the window begins at the end of the transmission. -/
theorem test_southTransmissionEnd :
    (after .southTransmissionEnd (after .scanTransaction running)).scan.slot =
      some { node := 32#8, purpose := .scanPoll, windowMs := 8, windowBegun := true } := by decide +kernel

/-- No row of the table gives bits, so no word spells a command (log 23). -/
theorem test_decodeTableWord : decodeTableWord 8 0 = none := rfl

/-! ### A concrete case for the hypotheses of each claim -/

theorem witness_StepRunsFrontCommand :
    ({ woken with pending := [.tachPulse 0, .cycleClose] } : State).pending =
      .tachPulse 0 :: [.cycleClose] := rfl

/-- Each of the four kinds of change is brought about by a command that may. -/
theorem witness_OnlyNamedCommands :
    (Instr.WellFormed (.tableWrite [7#8, 0#8, 1#8, 5#8]) ∧ woken.OwnAddress ∧ (purging 60).OwnAddress ∧
      closing.OwnAddress) ∧
    (exec (.tableWrite [7#8, 0#8, 1#8, 5#8]) woken =
        .next (after (.tableWrite [7#8, 0#8, 1#8, 5#8]) woken) ∧
      (after (.tableWrite [7#8, 0#8, 1#8, 5#8]) woken).banks.bankA ≠ woken.banks.bankA) ∧
    (exec .purgeTimerExpiry (purging 60) = .next (after .purgeTimerExpiry (purging 60)) ∧
      (after .purgeTimerExpiry (purging 60)).control.device ≠ (purging 60).control.device) ∧
    (exec .cycleClose closing = .next (after .cycleClose closing) ∧
      (after .cycleClose closing).alarm.sources[(22 : Fin 77)].state ≠
        closing.alarm.sources[(22 : Fin 77)].state) := by
  refine ⟨?_, ⟨rfl, ?_⟩, ⟨rfl, ?_⟩, ⟨rfl, ?_⟩⟩ <;> decide +kernel

/-- Hall B with a command at the front of its queue. -/
def queued : State := { running with pending := [.scanTransaction] }

/-- The step that the witnesses of the invariants take. -/
theorem queued_steps : ∃ t, step queued = .next t := ⟨_, rfl⟩

theorem queued_formed : queued.BanksInForm where
  formA := by decide +kernel
  formB := by decide +kernel
  insideA := by decide +kernel
  insideB := by decide +kernel

theorem queued_checked : queued.BanksChecked where
  active := by
    intro m h
    rw [show queued.banks.activeBank = some hall from rfl, Option.some.injEq] at h
    exact h ▸ test_hall_passes.2
  pendingSwap := by intro h; cases h

theorem witness_StepKeepsBanksInForm : queued.BanksInForm ∧ ∃ t, step queued = .next t :=
  ⟨queued_formed, queued_steps⟩

theorem witness_StepKeepsBanksChecked : queued.BanksChecked ∧ ∃ t, step queued = .next t :=
  ⟨queued_checked, queued_steps⟩

theorem witness_StepKeepsQueuesAccounted : queued.QueuesAccounted ∧ ∃ t, step queued = .next t :=
  ⟨by constructor <;> decide +kernel, queued_steps⟩

theorem witness_StepKeepsSourcesCoherent : queued.SourcesCoherent ∧ ∃ t, step queued = .next t :=
  ⟨⟨by decide +kernel⟩, queued_steps⟩

theorem witness_StepKeepsRelaysFollow : queued.RelaysFollow ∧ ∃ t, step queued = .next t :=
  ⟨⟨by decide +kernel, by decide +kernel, by decide +kernel⟩, queued_steps⟩

theorem witness_StepKeepsDeviceCoherent : queued.DeviceCoherent ∧ ∃ t, step queued = .next t :=
  ⟨by constructor <;> decide +kernel, queued_steps⟩

theorem witness_StepKeepsUnconfiguredStands :
    ({ woken with pending := [.tachPulse 0] } : State).UnconfiguredStands ∧
      ∃ t, step { woken with pending := [.tachPulse 0] } = .next t :=
  ⟨by constructor <;> decide +kernel, ⟨_, rfl⟩⟩

theorem witness_StepKeepsDisabledAtReset : queued.DisabledAtReset ∧ ∃ t, step queued = .next t :=
  ⟨by constructor <;> decide +kernel, queued_steps⟩

theorem witness_StepKeepsMeasuredInRange : queued.MeasuredInRange ∧ ∃ t, step queued = .next t :=
  ⟨by constructor <;> decide +kernel, queued_steps⟩

theorem witness_StepKeepsCountsAndDuties : queued.CountsAndDuties ∧ ∃ t, step queued = .next t := by
  refine ⟨⟨queued_checked, ?_, ?_, ?_, ?_, ?_, ?_, ?_, ?_, ?_⟩, queued_steps⟩
  · decide +kernel
  · decide +kernel
  · decide +kernel
  · decide +kernel
  · decide +kernel
  · intro f v h
    have none_set : ∀ f : Fin 16, queued.alloc.fans[f].manual = none := by decide +kernel
    rw [none_set] at h
    cases h
  · intro f v h
    have none_sent : ∀ f : Fin 16, queued.alloc.fans[f].lastSent = none := by decide +kernel
    rw [none_sent] at h
    cases h
  · decide +kernel
  · decide +kernel

/-- A state with a POLL in transmission. -/
def sendingPoll : State := { after .scanTransaction running with pending := [.southTransmissionEnd] }

theorem witness_StepKeepsSouthDiscipline : sendingPoll.SouthDiscipline ∧ ∃ t, step sendingPoll = .next t := by
  refine ⟨⟨by decide +kernel, ?_, ?_⟩, ⟨_, rfl⟩⟩
  · intro t h
    rw [show sendingPoll.lines.southTx =
      some { dest := 32#8, source := 0#8, kind := .poll, payload := [] } by decide +kernel,
      Option.some.injEq] at h
    exact ⟨{ node := 32#8, purpose := .scanPoll, windowMs := 8, windowBegun := false }, by decide +kernel,
      by rw [← h], rfl⟩
  · intro tr _ _
    decide +kernel

/-- A state whose RESTART has been answered with a DONE that waits. -/
def restarting : State := { after (.restart []) running with pending := [.northChoice] }

theorem witness_StepKeepsNorthDiscipline : restarting.NorthDiscipline ∧ ∃ t, step restarting = .next t := by
  refine ⟨⟨by decide +kernel, ?_, by decide +kernel, by decide +kernel, by decide +kernel⟩, ⟨_, rfl⟩⟩
  intro r h
  rw [show restarting.lines.northPending = .none by decide +kernel] at h
  cases h

theorem witness_StepKeepsOwnAddress : queued.OwnAddress ∧ ∃ t, step queued = .next t :=
  ⟨by decide +kernel, queued_steps⟩

theorem witness_ColdReset :
    (Release.resetHigh 7#3 = .resetHigh 7#3 ∧
      (inHold { resetLow := true, supplyLow := false }).hold = { resetLow := true, supplyLow := false }) ∧
    (Release.supplyInRange 0#3 = .supplyInRange 0#3 ∧
      (inHold { resetLow := false, supplyLow := true }).hold = { resetLow := false, supplyLow := true }) :=
  ⟨⟨rfl, rfl⟩, rfl, rfl⟩

/-- 10 µs, 1 µs in a supply hold, 2999 mV; 9 µs and 3000 mV; another command in a hold; both releases with
both inputs low, and each release with its input not low. -/
theorem witness_ResetHoldHoldsThePart :
    (10 ≤ 10 ∧ (inHold { resetLow := false, supplyLow := true }).hold.supplyLow = true ∧ 2999 < 3000) ∧
    (9 < 10 ∧ running.hold.supplyLow = false ∧ 3000 ≤ 3000) ∧
    (inHold { resetLow := true, supplyLow := true }).held = true ∧
    (∀ r, Instr.tachPulse 0 ≠ .coldReset r) ∧ (∀ h, Instr.tachPulse 0 ≠ .resetHold h) ∧
    (inHold { resetLow := true, supplyLow := true }).hold.supplyLow = true ∧
    (inHold { resetLow := true, supplyLow := true }).hold.resetLow = true ∧
    running.hold.resetLow = false := by
  refine ⟨by decide +kernel, by decide +kernel, by decide +kernel, ?_, ?_, by decide +kernel⟩ <;>
    intro _ h <;> cases h

/-- A state whose warm reset is due, with an active bank and with none. -/
theorem witness_WarmReset :
    (({ running with banks := { running.banks with warmResetDue := true } } : State).held = false ∧
      ({ running with banks := { running.banks with warmResetDue := true } } : State).banks.active ≠ none) ∧
    (({ woken with banks := { woken.banks with warmResetDue := true } } : State).held = false ∧
      ({ woken with banks := { woken.banks with warmResetDue := true } } : State).banks.active = none) := by
  decide +kernel

/-- Hall B with the four reply entries taken. -/
def fullReplies : State := { running with north := { running.north with reserved := 4 } }

theorem witness_ArrivalWithoutEntry :
    State.reset.lines.northRx = .hunt ∧
    (isNorthArrival (.status []) = true ∧ fullReplies.northOpen ∧ ¬ fullReplies.replyFree ∧
      fullReplies.control.device ≠ .unconfigured ∧ fullReplies.north.supervisorLost = false) ∧
    (({ fullReplies with north := { fullReplies.north with supervisorLost := true } } : State).northOpen ∧
      ¬ ({ fullReplies with north := { fullReplies.north with supervisorLost := true } } : State).replyFree) ∧
    (({ woken with north := { woken.north with reserved := 4 } } : State).northOpen ∧
      ¬ ({ woken with north := { woken.north with reserved := 4 } } : State).replyFree ∧
      ({ woken with north := { woken.north with reserved := 4 } } : State).control.device =
        .unconfigured) := by
  decide +kernel

/-- The last policy record; two zone records, 44 bytes, at the end of their table. -/
theorem witness_TableWriteReplacesRecords :
    (queued.BanksInForm ∧ queued.northOpen ∧ queued.replyFree ∧ queued.banks.state = .idle) ∧
    (tableLayout (7#8).toNat = some (1740, 1, 14) ∧ 1 ≤ (1#8).toNat ∧ (13#8).toNat + (1#8).toNat ≤ 14 ∧
      [5#8].length = (1#8).toNat * 1) ∧
    (tableLayout (3#8).toNat = some (1148, 22, 8) ∧ (6#8).toNat + (2#8).toNat ≤ 8 ∧
      (List.replicate 44 0#8).length = (2#8).toNat * 22 ∧ (List.replicate 44 0#8).length ≤ 44) :=
  ⟨⟨queued_formed, by decide +kernel⟩, by decide, by decide⟩

/-- Hall B during an activation's check. -/
def checking : State :=
  { running with
    banks := { running.banks with state := .checking 0#16 }
    north := { running.north with reserved := 1 } }

theorem witness_TableWriteIsRefused :
    (checking.northOpen ∧ checking.replyFree ∧ checking.banks.state ≠ .idle) ∧
    [7#8, 0#8].length < 3 ∧ 8 ≤ (8#8).toNat ∧ tableLayout (7#8).toNat = some (1740, 1, 14) ∧
    (0#8).toNat = 0 ∧ 14 < (13#8).toNat + (2#8).toNat ∧ [5#8].length ≠ (2#8).toNat * 1 ∧
    ((1#8).toNat ≠ 0 ∧ (13#8).toNat + (1#8).toNat ≤ 14 ∧ [5#8].length = (1#8).toNat * 1) := by
  decide +kernel

theorem witness_TableReadReturnsRecords :
    (running.northOpen ∧ running.replyFree ∧ running.banks.active = some .a ∧
      running.banks.standbyId = .b) ∧
    (tableLayout (2#8).toNat = some (124, 16, 64) ∧ 1 ≤ (2#8).toNat ∧ (62#8).toNat + (2#8).toNat ≤ 64 ∧
      3 + (2#8).toNat * 16 ≤ 46) ∧
    (0#8).toNat = 0 ∧ 64 < (63#8).toNat + (2#8).toNat ∧ 46 < 3 + (3#8).toNat * 16 ∧
    woken.northOpen ∧ woken.replyFree ∧ woken.banks.active = none ∧ (2#8 : Byte) ≠ 0#8 ∧
    (2#8 : Byte) ≠ 1#8 := by
  decide +kernel

theorem witness_ActivateStartsTheCheck :
    (running.northOpen ∧ running.replyFree ∧ running.banks.state = .idle ∧
      running.banks.restartPending = false) ∧
    (checking.northOpen ∧ checking.replyFree ∧ checking.banks.state ≠ .idle) ∧
    (restarting.banks.restartPending = true ∧ restarting.north.reserved + restarting.north.built.length < 4) ∧
    ([] : List Byte).length ≠ 2 ∧ (List.replicate 47 0#8).length ≤ 47 := by
  decide +kernel

theorem witness_Acknowledge :
    (running.northOpen ∧ running.replyFree) ∧ (76#8).toNat ≤ 76 ∧ (3#8).toNat ≤ 3 ∧
    76 < (77#8).toNat ∧ 3 < (4#8).toNat ∧ (2#8 : Byte) ≠ 0#8 ∧ (2#8 : Byte) ≠ 1#8 := by
  decide +kernel

theorem witness_Status : running.northOpen ∧ running.replyFree ∧ ([0#8] : List Byte) ≠ [] := by
  decide +kernel

theorem witness_RuntimeReaders :
    (running.northOpen ∧ running.replyFree) ∧
    (1 ≤ (4#8).toNat ∧ (60#8).toNat + (4#8).toNat ≤ 64 ∧ (4#8).toNat ≤ 4) ∧
    ((0#8).toNat = 0 ∧ 64 < (61#8).toNat + (4#8).toNat ∧ 4 < (5#8).toNat) ∧
    (7#8).toNat = (7 : Fin 8).val ∧ 8 ≤ (8#8).toNat ∧
    (1 ≤ (3#8).toNat ∧ (13#8).toNat + (3#8).toNat ≤ 16 ∧ (3#8).toNat ≤ 3) ∧
    (16 < (14#8).toNat + (3#8).toNat ∧ 3 < (4#8).toNat) := by
  decide +kernel

theorem witness_Restart :
    running.northOpen ∧ running.replyFree ∧ checking.northOpen ∧ checking.replyFree ∧
      ([0#8] : List Byte) ≠ [] := by
  decide +kernel

/-- The speed 255 to a node of no fan; the speeds 101 and 254. -/
theorem witness_BadRequests :
    (running.northOpen ∧ running.replyFree) ∧ (0#8).toNat = 0 ∧ 9 < (10#8).toNat ∧
    (1 ≤ (247#8).toNat ∧ (247#8).toNat ≤ 247 ∧ 247#8 ≠ running.address ∧ 1 ≤ [1#8].length) ∧
    ([0#8, 0#8, 0#8].length ≠ 4 ∧ [0#8, 0#8, 0#8].length ≠ 2 ∧ [0#8, 0#8, 0#8].length ≠ 1) ∧
    (100 < (101#8).toNat ∧ (101#8).toNat < 255 ∧ (254#8).toNat < 255) ∧
    ((255#8).toNat = 255 ∧ remoteFanOf running.tables 90#8 = none) := by
  decide +kernel

theorem witness_DriveSetIsAbsorbed :
    running.northOpen ∧ running.replyFree ∧ 1 ≤ (46#8).toNat ∧ (46#8).toNat ≤ 247 ∧
      46#8 ≠ running.address ∧ ((100#8).toNat ≤ 100 ∧ (255#8).toNat = 255) ∧
      remoteFanOf running.tables 46#8 = some 6 := by
  decide +kernel

theorem witness_CandidateIsScreened :
    (running.northOpen ∧ running.replyFree ∧ 1 ≤ (90#8).toNat ∧ (90#8).toNat ≤ 247 ∧
      90#8 ≠ running.address ∧ (List.replicate 48 0#8).length ≤ 48) ∧
    (1 ≤ (64#8).toNat ∧ 64#8 ≠ running.address ∧ (100#8).toNat ≤ 100 ∧
      remoteFanOf running.tables 64#8 = none) := by
  decide +kernel

/-- Node 34 is classified by window 0 to channel 22. -/
theorem hall_classifies_34 : (awaiting 34#8 .scanPoll).classifies .reading 34#8 0 22 := by
  unfold State.classifies State.windowClaims
  decide +kernel

/-- Node 47 is classified by window 2 to fan 7. -/
theorem hall_classifies_47 : (awaiting 47#8 .scanQuery).classifies .driveStatus 47#8 2 7 := by
  unfold State.classifies State.windowClaims
  decide +kernel

/-- Node 90 is in no window. -/
theorem hall_unclassified_90 (kind : ReplyKind) (purpose : Purpose) (size : Nat) :
    (awaiting 90#8 purpose).unclassified kind 90#8 size := by
  have h : ∀ k, k < 16 → ¬ (awaiting 90#8 .scanPoll).windowClaims k kind 90#8 := by
    unfold State.windowClaims
    cases kind <;> decide +kernel
  exact .inl h

theorem witness_ReadingReachesItsChannel :
    ((awaiting 34#8 .scanPoll).southOpen ∧
      (awaiting 34#8 .scanPoll).scan.slot = some (openRecord 34#8 .scanPoll)) ∧ (2#8).toNat ≤ 2 ∧
    (awaiting 34#8 .scanPoll).classifies .reading 34#8 0 (22 : Fin 64).val ∧ (22 : Fin 64).val < 60 :=
  ⟨by decide +kernel, by decide, hall_classifies_34, by decide⟩

/-- A valid first reading under ALL is due a REPORT, a WARMUP under ALL is not. -/
theorem witness_ReportsFollowThePolicy :
    (True ↔ (ForwardPolicy.all = .all ∧ ((∃ v, ChannelEvent.valid 8 = .valid v) ∨
      ((ChannelRec.takeEvent (channelOf hall 22) (.valid 8) .initial).health = .failed ∧
        ChannelRec.initial.health ≠ .failed))) ∨ ForwardPolicy.all = .change ∧ False) ∧
    (False ↔ (ForwardPolicy.all = .all ∧ ((∃ v, ChannelEvent.warmup = .valid v) ∨
      ((ChannelRec.takeEvent (channelOf hall 22) .warmup .initial).health = .failed ∧
        ChannelRec.initial.health ≠ .failed))) ∨ ForwardPolicy.all = .change ∧ False) := by
  constructor
  · simp
  · simp [ChannelRec.takeEvent, ChannelRec.takeWarmup, ChannelRec.initial]

theorem witness_UnclassifiedReply :
    ((awaiting 90#8 .scanPoll).southOpen ∧
      (awaiting 90#8 .scanPoll).scan.slot = some (openRecord 90#8 .scanPoll) ∧ (0#8).toNat ≤ 2) ∧
    (awaiting 90#8 .scanPoll).unclassified .reading 90#8 60 ∧
    (awaiting 90#8 .fanDrive).unclassified .driveStatus 90#8 16 :=
  ⟨by decide +kernel, hall_unclassified_90 .., hall_unclassified_90 ..⟩

theorem witness_DriveStatusJudgesItsFan :
    ((awaiting 47#8 .scanQuery).southOpen ∧
      (awaiting 47#8 .scanQuery).scan.slot = some (openRecord 47#8 .scanQuery)) ∧
    (awaiting 47#8 .scanQuery).classifies .driveStatus 47#8 2 (7 : Fin 16).val :=
  ⟨by decide +kernel, hall_classifies_47⟩

theorem witness_AnswerEndsTheRelay :
    ((awaiting 90#8 .relayPosted).southOpen ∧
      (awaiting 90#8 .relayPosted).scan.slot = some (openRecord 90#8 .relayPosted)) ∧
    ((awaiting 90#8 (.relayConfirmed .command)).southOpen ∧
      (awaiting 90#8 (.relayConfirmed .command)).scan.slot =
        some (openRecord 90#8 (.relayConfirmed .command))) ∧
    (List.replicate 48 0#8).length ≤ 48 := by
  decide +kernel

theorem witness_UnmatchedReply :
    (running.southOpen ∧ running.scan.slot = none) ∧ (1#8 : Byte) ≠ 0#8 ∧
    ((awaiting 34#8 .scanPoll).southOpen ∧
      (awaiting 34#8 .scanPoll).scan.slot = some (openRecord 34#8 .scanPoll) ∧
      33#8 ≠ (openRecord 34#8 .scanPoll).node ∧
      TelegramKind.answer ≠ (openRecord 34#8 .scanPoll).purpose.expects) ∧
    2 < (3#8).toNat ∧ State.reset.lines.southRx = .hunt := by
  decide +kernel

theorem witness_WindowExpiry :
    ((awaiting 34#8 .scanPoll).held = false ∧
      (awaiting 34#8 .scanPoll).scan.slot = some (openRecord 34#8 .scanPoll) ∧
      (openRecord 34#8 .scanPoll).windowBegun = true) ∧
    (awaiting 34#8 .scanPoll).classifies .reading 34#8 0 (22 : Fin 64).val ∧
    (awaiting 90#8 .scanPoll).unclassified .reading 90#8 60 ∧
    (awaiting 47#8 .scanQuery).classifies .driveStatus 47#8 2 (7 : Fin 16).val ∧
    (awaiting 90#8 .scanQuery).unclassified .driveStatus 90#8 16 ∧
    ((awaiting 90#8 .relayPosted).scan.slot = some (openRecord 90#8 .relayPosted) ∧
      (awaiting 90#8 (.relayConfirmed .command)).scan.slot =
        some (openRecord 90#8 (.relayConfirmed .command))) ∧
    (∀ tr, running.scan.slot = some tr → tr.windowBegun = false) :=
  ⟨by decide +kernel, hall_classifies_34, hall_unclassified_90 .., hall_classifies_47,
    hall_unclassified_90 .., by decide +kernel, by intro tr h; cases h⟩

/-- Hall B with both fans flagged. -/
def flagged : State :=
  withFan 6 { FanRec.initial with flag := true } (withFan 7 { FanRec.initial with flag := true } running)

/-- Hall B with a flag on fan 0, which is disabled. -/
def strayFlag (s : State) : State := withFan 0 { FanRec.initial with flag := true } s

/-- R29: the stray flag is cleared, fan 6 is served and fan 7 keeps its flag. -/
theorem test_fanDrive_stray :
    ((after .fanDrive (strayFlag flagged)).alloc.fans.map (·.flag)).toList.take 8 =
      [false, false, false, false, false, false, false, true] ∧
    (after .fanDrive (strayFlag running)).scan.slot = none := by decide +kernel

theorem witness_FanDrive :
    ((strayFlag flagged).southLoopFree ∧ (strayFlag flagged).alloc.fans[(6 : Fin 16)].flag = true ∧
      (fanOf flagged.tables (6 : Fin 16)).enable = true ∧
      (fanOf flagged.tables (6 : Fin 16)).remote = true ∧
      (∀ g : Fin 16, g < 6 → (strayFlag flagged).alloc.fans[g].flag = true →
        ¬ ((fanOf (strayFlag flagged).tables g).enable = true ∧
          (fanOf (strayFlag flagged).tables g).remote = true))) ∧
    (strayFlag running).southLoopFree ∧ (strayFlag running).noFanFlagged := by
  decide +kernel

/-- Hall B with a relay waiting, its interleave count at the interleave. -/
def relaying : State :=
  { running with
    scan := { running.scan with interleave := 2 }
    relayQueue := [{ node := 90#8, kind := .command, payload := [1#8], mode := .confirmed }] }

/-- Hall B with a relay waiting one scan transaction short of its turn. -/
def relayNext : State := { relaying with scan := { relaying.scan with interleave := 1 } }

theorem witness_RelayTransaction :
    (relaying.southLoopFree ∧ relaying.noFanFlagged ∧
      relaying.relayQueue = [{ node := 90#8, kind := .command, payload := [1#8], mode := .confirmed }] ∧
      relaying.site.interleave ≤ relaying.scan.interleave) ∧
    closing.southLoopFree ∧ closing.scanDone ∧
    (relayNext.southLoopFree ∧ relayNext.scan.interleave < relayNext.site.interleave ∧
      relayNext.scan.scanPos = some 0 ∧ entryDue relayNext.tables relayNext.scan.cycle 0 = true) ∧
    (running.southLoopFree ∧ running.relayQueue = []) ∧ flagged.southLoopFree ∧ ¬ flagged.noFanFlagged :=
  ⟨by decide +kernel, by decide +kernel, (dueEntry_eq_none_iff closing).1 (by decide +kernel),
    by decide +kernel⟩

/-- Entry 0 from position 0; entry 8, the last of the list, due in cycle 300. -/
theorem witness_ScanTransaction :
    (running.southLoopFree ∧ running.noFanFlagged ∧ running.scan.interleave < running.site.interleave ∧ running.relayQueue = [] ∧
      running.scan.scanPos = some 0) ∧
    (relaying.southLoopFree ∧ relaying.site.interleave ≤ relaying.scan.interleave ∧
      relaying.relayQueue ≠ []) ∧ closing.southLoopFree ∧ closing.scanDone ∧
    (∀ j, 0 ≤ j → j < 0 → ¬ running.isDue j) ∧ running.isDue 0 ∧ running.isDue 8 := by
  refine ⟨by decide +kernel, by decide +kernel, by decide +kernel,
    (dueEntry_eq_none_iff closing).1 (by decide +kernel), by omega, ?_, ?_⟩ <;>
    unfold State.isDue <;> decide +kernel

theorem witness_SouthLineEvents :
    (sendingPoll.held = false ∧
      sendingPoll.lines.southTx = some { dest := 32#8, source := 0#8, kind := .poll, payload := [] } ∧
      sendingPoll.scan.slot =
        some { node := 32#8, purpose := .scanPoll, windowMs := 8, windowBegun := false }) ∧
    (({ running with lines := { running.lines with southPending := some .b38400 } } : State).scan.slot = none ∧
      running.lines.southTx = none ∧ running.lines.southRx ≠ .receiving) ∧
    (({ sendingPoll with lines := { sendingPoll.lines with southPending := some .b38400 } } : State).scan.slot ≠
      none) := by
  decide +kernel

theorem witness_CycleTimerExpiry :
    (({ running with scan := { running.scan with cycleOpen := false, cycle := 65535 } } : State).held = false ∧
      ({ running with scan := { running.scan with cycleOpen := false, cycle := 65535 } } : State).scan.timer =
        .running 1000 ∧
      ({ running with scan := { running.scan with cycleOpen := false, cycle := 65535 } } : State).scan.cycle ≤
        65535) ∧
    (running.scan.timer = .running 1000 ∧ running.scan.cycleOpen = true) := by
  decide +kernel

theorem witness_LocalConversion :
    ({ running with converter := [3] } : State).held = false ∧
      ({ running with converter := [3] } : State).converter = 3 :: [] ∧
      (63 : Fin 64).val = 60 + (3 : Fin 4).val := by
  decide +kernel

/-- The close of hall B's cycle 300. -/
theorem closing_plain : closing.plainClose :=
  ⟨(closeReady_iff closing).2 (by decide +kernel), by decide +kernel, by decide +kernel⟩

theorem witness_CloseEvaluatesTheZones :
    closing.plainClose ∧ (zoneOf closing.tables 2).enable = true ∧ (zoneOf closing.tables 0).enable = false :=
  ⟨closing_plain, by decide +kernel⟩

theorem witness_CloseWorksTheFans :
    closing.plainClose ∧ closing.banks.active ≠ none ∧ (fanOf closing.tables 6).enable = true ∧
      (fanOf closing.tables 0).enable = false :=
  ⟨closing_plain, by decide +kernel⟩

theorem witness_CloseHandsTheConditions : closing.plainClose ∧ ∃ p, closing.scan.timer = .running p :=
  ⟨closing_plain, 1000, by decide +kernel⟩

/-- A late close of hall B. -/
def lateClosing : State := { closing with scan := { closing.scan with timer := .expired, cycle := 65535 } }

theorem witness_CloseEndsTheCycle :
    (closing.plainClose ∧ closing.scan.cycle ≤ 65535 ∧ closing.scan.timer = .running 1000) ∧
    (lateClosing.plainClose ∧ lateClosing.scan.cycle ≤ 65535 ∧ lateClosing.scan.timer = .expired) :=
  ⟨⟨closing_plain, by decide +kernel⟩,
    ⟨(closeReady_iff lateClosing).2 (by decide +kernel), by decide +kernel, by decide +kernel⟩,
    by decide +kernel⟩

/-- Hall B with a swap pending from Bank A to Bank B, the close late. -/
def swapping : State :=
  { lateClosing with
    banks := { lateClosing.banks with bankB := hall, state := .swapPending }
    north := { lateClosing.north with reserved := 1 } }

/-- The first close of a purge of 0 s, with a swap pending. -/
def swappingInPurge : State :=
  { purging 0 with
    banks := { (purging 0).banks with bankB := hall, state := .swapPending }
    north := { (purging 0).north with reserved := 1 } }

theorem witness_CloseCompletesThePendingSwap :
    (swapping.closeReady ∧ swapping.banks.state = .swapPending ∧ swapping.banks.active = some .a ∧
      ¬ (swapping.control.device = .purge ∧ swapping.control.purgeTimer = some 0) ∧
      swapping.scan.timer = .expired ∧ swapping.scan.cycle ≤ 65535) ∧
    (swappingInPurge.closeReady ∧ swappingInPurge.banks.state = .swapPending ∧
      swappingInPurge.banks.active = some .a ∧ swappingInPurge.control.device = .purge ∧
      swappingInPurge.control.purgeTimer = some 0 ∧ swappingInPurge.scan.timer = .running 1000) :=
  ⟨⟨(closeReady_iff swapping).2 (by decide +kernel), by decide +kernel⟩,
    (closeReady_iff swappingInPurge).2 (by decide +kernel), by decide +kernel⟩

/-- R121, R124: the swap, then the expiry of the purge of 0 s. -/
theorem test_cycleClose_swap_then_purge :
    (after .cycleClose swappingInPurge).banks.active = some .b ∧
    (after .cycleClose swappingInPurge).control.device = .run := by decide +kernel

/-- R2: a swap leaves a new south rate for SOUTH_RATE_CHANGE, which may follow at once. -/
theorem test_southRate_after_swap :
    southRateAtSwap .b38400 running.lines = { running.lines with southPending := some .b38400 } ∧
    southRateAtSwap .b19200 running.lines = running.lines := by decide +kernel

theorem purging_1_coherent : (purging 1).DeviceCoherent := by constructor <;> decide +kernel

theorem purging_0_coherent : (purging 0).DeviceCoherent := by constructor <;> decide +kernel

theorem witness_PurgeEndsInRun :
    ((purging 1).DeviceCoherent ∧ (purging 1).control.device = .purge ∧ (purging 1).held = false ∧
      (purging 1).control.purgeTimer = some (0 + 1)) ∧
    ((purging 0).DeviceCoherent ∧ (purging 0).closeReady ∧ (purging 0).control.purgeTimer = some 0 ∧
      (purging 0).banks.state ≠ .swapPending ∧ (purging 0).scan.timer = .running 1000) :=
  ⟨⟨purging_1_coherent, by decide +kernel⟩,
    ⟨purging_0_coherent, (closeReady_iff _).2 (by decide +kernel), by decide +kernel, by decide +kernel⟩⟩

/-! The three classes waiting in turn; source 22 is of level 2, source 20 of level 3, the immediate one. -/

/-- One ALERT waits. -/
def alertWaits : State := withSource 22 (source .raised true) running

/-- One RESPONSE waits. -/
def responseWaits : State :=
  { running with north := { running.north with
      built := [{ source := 248#8, echo := 5#8, result := .done, payload := [], mark := .plain }] } }

/-- One REPORT waits. -/
def reportWaits : State :=
  { running with north := { running.north with
      reports := [{ channel := 22, kind := .gas, value := 8, health := .healthy, cycle := 300 }] } }

theorem alertWaits_chooses : alertWaits.chooses .alert := by
  refine .inr ⟨?_, ⟨22, by decide +kernel⟩, ?_⟩
  · unfold State.immediatePending; decide +kernel
  · intro d h
    cases d
    · simp
    · exact absurd rfl h
    · exact absurd rfl h

theorem responseWaits_chooses : responseWaits.chooses .response := by
  refine .inr ⟨?_, ?_, ?_⟩
  · unfold State.immediatePending; decide +kernel
  · unfold State.waits; decide +kernel
  · intro d h
    cases d
    · exact absurd h (by unfold State.waits; decide +kernel)
    · simp
    · exact absurd rfl h

theorem reportWaits_chooses : reportWaits.chooses .report := by
  refine .inr ⟨?_, ?_, ?_⟩
  · unfold State.immediatePending; decide +kernel
  · unfold State.waits; decide +kernel
  · intro d h
    cases d
    · exact absurd h (by unfold State.waits; decide +kernel)
    · exact absurd rfl h
    · simp

/-- An immediate notice is pending. -/
def immediateWaits : State := withSource 20 (source .raised true) running

theorem immediateWaits_chooses : immediateWaits.chooses .alert :=
  .inl ⟨by unfold State.immediatePending; decide +kernel, rfl⟩

theorem witness_NorthChoiceServesOneClass :
    (alertWaits.northFreeNow ∧ alertWaits.chooses .alert) ∧
    (immediateWaits.northFreeNow ∧ immediateWaits.chooses .alert) ∧
    (responseWaits.northFreeNow ∧ responseWaits.chooses .response) ∧
    (reportWaits.northFreeNow ∧ reportWaits.chooses .report) ∧
    (∀ c, ¬ running.waits c) ∧ State.reset.lines.northTx ≠ .ready := by
  refine ⟨⟨by decide +kernel, alertWaits_chooses⟩, ⟨by decide +kernel, immediateWaits_chooses⟩,
    ⟨by decide +kernel, responseWaits_chooses⟩, ⟨by decide +kernel, reportWaits_chooses⟩, ?_,
    by decide +kernel⟩
  intro c
  cases c <;> unfold State.waits <;> decide +kernel

theorem witness_NorthChoiceSends :
    (alertWaits.northFreeNow ∧ alertWaits.chooses .alert ∧ alertWaits.isNextNotice 22) ∧
    (immediateWaits.northFreeNow ∧ immediateWaits.chooses .alert ∧ immediateWaits.isNextNotice 20) ∧
    (responseWaits.chooses .response ∧ ∃ r, responseWaits.north.built = r :: []) ∧
    (reportWaits.chooses .report ∧ ∃ r, reportWaits.north.reports = r :: []) := by
  refine ⟨⟨by decide +kernel, alertWaits_chooses, ?_⟩, ⟨by decide +kernel, immediateWaits_chooses, ?_⟩,
    ⟨responseWaits_chooses, _, rfl⟩, ⟨reportWaits_chooses, _, rfl⟩⟩
  · unfold State.isNextNotice State.immediatePending; decide +kernel
  · unfold State.isNextNotice State.immediatePending; decide +kernel

/-- Hall B sending a RESPONSE with a mark. -/
def sendingReply (mark : ReplyMark) (pending : NorthPending) : State :=
  { running with lines := { running.lines with
      northTx := .sending { dest := 0#8, source := 248#8, kind := .response, payload := [3#8, 0#8] } mark
      northPending := pending } }

theorem witness_NorthTransmissionEnd :
    ((sendingReply .plain .none).held = false ∧
      (sendingReply .plain .none).lines.northTx =
        .sending { dest := 0#8, source := 248#8, kind := .response, payload := [3#8, 0#8] } .plain) ∧
    (sendingReply .restartDone .none).held = false ∧
    ((sendingReply .endsOldRate (.awaitingResponse .b38400)).lines.northPending = .awaitingResponse .b38400 ∧
      (sendingReply .endsOldRate (.awaitingResponse .b38400)).lines.northRx ≠ .receiving) ∧
    (true = true ∧ (sendingReply .endsOldRate (.awaitingResponse .b38400)).lines.northRx = .armed) := by
  decide +kernel

theorem witness_SilenceExpiry : running.held = false ∧ running.north.silence = .running 30 := by
  decide +kernel

/-- Hall B with its standby bank, a copy of the active one, under check against a CRC. -/
def underCheck (expected : Crc) : State :=
  { running with
    banks := { running.banks with bankB := hall, state := .checking expected }
    north := { running.north with reserved := 1 } }

/-- An all-zero image fails check 1, the first. -/
theorem empty_fails : (tenChecks [])[1 - 1]? = some false := by decide +kernel

theorem hall_passes : ∀ b ∈ tenChecks hall, b = true := by decide +kernel

theorem witness_ActivationCheckEnds :
    (underCheck 0#16).held = false ∧
    (∀ e, (underCheck e).banks.state = .checking e ∧ (underCheck e).banks.standbyBank = hall) ∧
    (∀ e, ({ underCheck e with banks := { (underCheck e).banks with bankB := [] } } : State).banks.standbyBank =
      []) ∧
    crc16 (imageOf hall) ≠ crc16 (imageOf hall) ^^^ 1#16 ∧
    ((tenChecks [])[1 - 1]? = some false ∧ ∀ j, j < 1 - 1 → (tenChecks [])[j]? = some true) ∧
    (∀ b ∈ tenChecks hall, b = true) ∧ (underCheck 0#16).control.device ≠ .unconfigured := by
  refine ⟨rfl, fun e => ⟨rfl, rfl⟩, fun e => rfl, ?_, ⟨empty_fails, by omega⟩, hall_passes,
    by decide +kernel⟩
  intro h
  have flip : ∀ x : Crc, x ≠ x ^^^ 1#16 := by
    intro x hx
    have := congrArg (fun y : Crc => y.getLsbD 0) hx
    simp at this
  exact flip _ h

/-- UNCONFIGURED, hall B's tables in Bank A under check against their own CRC. -/
def firstCheck : State :=
  { woken with
    banks := { woken.banks with bankA := hall, state := .checking (crc16 (imageOf hall)) }
    north := { woken.north with reserved := 1 } }

theorem witness_FirstActivation :
    firstCheck.held = false ∧ firstCheck.DeviceCoherent ∧ firstCheck.UnconfiguredStands ∧
      firstCheck.control.device = .unconfigured ∧
      firstCheck.banks.state = .checking (crc16 (imageOf hall)) ∧ firstCheck.banks.bankA = hall ∧
      ∀ b ∈ tenChecks hall, b = true := by
  refine ⟨rfl, ?_, ?_, rfl, rfl, rfl, hall_passes⟩
  · constructor
    case swap => intro h; cases h
    all_goals first | rfl | (simp only [firstCheck]; decide +kernel)
  · constructor
    case swap => intro _ h; cases h
    all_goals first | rfl | (simp only [firstCheck]; decide +kernel)

theorem witness_PulsesAndPeriods :
    running.held = false ∧ running.pwm.tach[(3 : Fin 4)] ≤ 65535 ∧
      closing.pwm.outputs[(3 : Fin 4)].next = none ∧
      (after .cycleClose closing).held = false ∧
      (after .cycleClose closing).pwm.outputs[(3 : Fin 4)].next =
        some { high := 0, low := 40, period := 40 } := by
  decide +kernel

/-- A STATUS telegram to address 248. -/
def statusTelegram : Telegram := { dest := 248#8, source := 0#8, kind := .request, payload := [5#8] }

/-- A north telegram of a south kind, from node 0 to address 248. -/
def strayPoll : Telegram := { dest := 248#8, source := 0#8, kind := .poll, payload := [] }

theorem witness_LineEvents :
    (running.held = false ∧ sendingPoll.held = false ∧ sendingPoll.lines.southTx ≠ none ∧
      running.lines.southTx = none ∧ running.lines.northRx.noted false ≠ .receiving ∧
      running.lines.northRx.noted true = .receiving ∧ sendingPoll.lines.southRx = .hunt ∧
      State.reset.lines.northTx = .settling) ∧
    (running.lines.southRx ≠ .hunt ∧ 49 ≤ (49#8).toNat ∧ running.lines.northRx = .armed ∧
      (0#8 : Byte) ≠ 0xC3#8) ∧
    (statusTelegram.payload.length ≤ 48 ∧ crc16 statusTelegram.covered ^^^ 1#16 ≠
      crc16 statusTelegram.covered) ∧
    (([] : List Byte).length ≤ 48 ∧ ∀ k : TelegramKind, kindCode k ≠ 0x99#8) ∧
    (strayPoll.payload.length ≤ 48 ∧ passesR9 .north strayPoll = false) ∧
    (({ statusTelegram with source := 9#8 } : Telegram).source ≠ 0#8 ∧
      247 < ({ statusTelegram with dest := 249#8 } : Telegram).dest.toNat ∧
      ({ statusTelegram with dest := 249#8 } : Telegram).dest ≠ running.address) ∧
    running.scan.slot = none := by
  refine ⟨by decide +kernel, by decide +kernel, by decide +kernel, ⟨by decide, ?_⟩, by decide +kernel⟩
  intro k; cases k <;> decide

end Sys2Proof.Tests
end

section
/-! SUPPORT. What each command does to a part that is out of reset, and the induction that every invariant
of a step goes by. -/

namespace Sys2Proof.Machine

/-- What a command does when it is taken: `exec` without the outcome and without the reset hold. -/
def effect : Instr → State → State
  | .coldReset release => releaseHold release
  | .resetHold cause => fun s => if s.hold.counts cause then resetHold (s.hold.joined cause) s else s
  | .warmReset => fun s => if s.banks.warmResetDue then warmReset s else s
  | .tableWrite fields => receiveRequest codeTableWrite fields
  | .tableRead fields => receiveRequest codeTableRead fields
  | .activate fields => receiveRequest codeActivate fields
  | .acknowledge fields => receiveRequest codeAcknowledge fields
  | .status fields => receiveRequest codeStatus fields
  | .readChannels fields => receiveRequest codeReadChannels fields
  | .readZone fields => receiveRequest codeReadZone fields
  | .readFan fields => receiveRequest codeReadFan fields
  | .restart fields => receiveRequest codeRestart fields
  | .driveSet node speed => receiveNorth { dest := node, source := 0#8, kind := .driveSet, payload := [speed] }
  | .command node payload => receiveNorth { dest := node, source := 0#8, kind := .command, payload }
  | .reading dest source headStatus raw =>
    receiveSouth { dest, source, kind := .reading, payload := headStatus :: u16 raw.toNat }
      fun tr => takeReadingFrom tr.node headStatus raw.toNat
  | .driveStatus dest source running feedback faultCode =>
    receiveSouth { dest, source, kind := .driveStatus, payload := [running, feedback, faultCode] }
      fun tr => takeDriveStatusFrom tr.node (driveReplyOf running feedback faultCode)
  | .answer dest source payload =>
    receiveSouth { dest, source, kind := .answer, payload } fun tr => takeAnswer tr payload
  | .replyWindowExpiry receiving => windowExpiry receiving
  | .localConversionComplete sample => conversionStep sample
  | .cycleTimerExpiry => timerExpiry
  | .cycleClose => fun s => if closeDue s then closeCycle s else s
  | .fanDrive => fanDriveStep
  | .relayTransaction => relayStep
  | .scanTransaction => scanStep
  | .southRateChange => southRateStep
  | .northChoice => northChoiceStep
  | .northTransmissionEnd receiving => northSent receiving
  | .activationCheckEnd => checkEndStep
  | .purgeTimerExpiry => purgeTimerStep
  | .supervisorSilenceExpiry => silenceExpiry
  | .tachPulse input => countPulse input
  | .pwmPeriodEnd output => periodEnd output
  | .lineIdle line => idleStep line
  | .telegramAbandoned line cause => abandonStep line cause
  | .discardedTelegram line chars => discardStep line chars
  | .dispatchBadRequest telegram => fun s => receiveNorth (misdirectedTelegram s.address telegram) s
  | .unknownRequest code fields => receiveRequest code fields
  | .southTransmissionEnd => southSent

/-- A part out of reset takes every command by its effect. -/
theorem exec_of_running (c : Instr) {s : State} (h : s.held = false) :
    exec c s = .next (effect c s) := by
  cases c
  case coldReset => rfl
  case resetHold => rfl
  all_goals exact live_of_running _ h

/-- R126: a part held in reset takes the two resets alone. -/
theorem exec_of_held (c : Instr) {s : State} (h : s.held = true) :
    exec c s = .next s ∨ ((∃ r, c = .coldReset r) ∨ ∃ k, c = .resetHold k) ∧ exec c s = .next (effect c s) := by
  cases c
  case coldReset r => exact .inr ⟨.inl ⟨r, rfl⟩, rfl⟩
  case resetHold k => exact .inr ⟨.inr ⟨k, rfl⟩, rfl⟩
  all_goals exact .inl (live_of_held _ h)

/-- An invariant of every step: it does not read the queue, and the effect of every command that the part
can take keeps it. -/
theorem step_keeps {P : State → Prop} (queue : ∀ s q, P s → P { s with pending := q })
    (keeps : ∀ c s, (s.held = true → (∃ r, c = .coldReset r) ∨ ∃ k, c = .resetHold k) →
      P s → P (effect c s)) (s t : State) (hs : P s) (h : step s = .next t) : P t := by
  unfold step at h
  split at h
  · cases h; exact hs
  · next c rest _ =>
    have hq := queue s rest hs
    cases held : State.held { s with pending := rest }
    · rw [exec_of_running c held] at h
      cases h
      exact keeps c _ (by simp [held]) hq
    · rcases exec_of_held c held with hc | ⟨reset, hc⟩ <;> rw [hc] at h <;> cases h
      · exact hq
      · exact keeps c _ (fun _ => reset) hq

end Sys2Proof.Machine
end

section
/-! SUPPORT. What each command of the loops, the cycle, the activation and the lines leaves as it was. -/

namespace Sys2Proof.Machine

/-! ### South replies and the reply window (R25, R26, R55) -/

theorem takeUnclassified_frame (s : State) :
    takeUnclassified s =
      { s with
        store := { s.store with unclassifiedMark := true }, alarm := (takeUnclassified s).alarm } := by
  ext1 <;> simp [takeUnclassified]

/-- A reading writes its channel's record and at most one REPORT. -/
theorem takeReading_frame (ch : Fin 64) (policy : ForwardPolicy) (deadband : Nat) (status : HeadStatus)
    (raw : Nat) (s : State) :
    takeReading ch policy deadband status raw s =
      { s with
        store := { s.store with channels := (takeReading ch policy deadband status raw s).store.channels }
        north := { s.north with
          reports := (takeReading ch policy deadband status raw s).north.reports } } := by
  simp only [takeReading]
  split
  · rfl
  · rw [channelEvent_frame]

theorem takeChannelMiss_frame (ch : Fin 64) (policy : ForwardPolicy) (deadband : Nat) (s : State) :
    takeChannelMiss ch policy deadband s =
      { s with
        store := { s.store with channels := (takeChannelMiss ch policy deadband s).store.channels }
        north := { s.north with reports := (takeChannelMiss ch policy deadband s).north.reports } } := by
  simp only [takeChannelMiss]
  split
  · rfl
  · rw [channelEvent_frame]

theorem takeDriveStatus_frame (f : Fin 16) (st : DriveReply) (s : State) :
    takeDriveStatus f st s =
      { s with alloc := { s.alloc with fans := (takeDriveStatus f st s).alloc.fans } } := by
  unfold takeDriveStatus
  split <;> rfl

theorem takeFanMiss_frame (f : Fin 16) (s : State) :
    takeFanMiss f s = { s with alloc := { s.alloc with fans := (takeFanMiss f s).alloc.fans } } := by
  unfold takeFanMiss
  split <;> rfl

/-- A READING that is handed on writes the Channel Store, the REPORTs and, unclassified, the Alarm Unit. -/
theorem takeReadingFrom_frame (node status : Byte) (raw : Nat) (s : State) :
    takeReadingFrom node status raw s =
      { s with
        store := (takeReadingFrom node status raw s).store
        alarm := (takeReadingFrom node status raw s).alarm
        north := { s.north with reports := (takeReadingFrom node status raw s).north.reports } } := by
  unfold takeReadingFrom
  split
  · rw [takeReading_frame]
  · rw [takeUnclassified_frame]

/-- A DRIVE STATUS that is handed on writes a fan record or, unclassified, the mark and the Alarm Unit. -/
theorem takeDriveStatusFrom_frame (node : Byte) (st : DriveReply) (s : State) :
    takeDriveStatusFrom node st s =
      { s with
        store := (takeDriveStatusFrom node st s).store
        alloc := { s.alloc with fans := (takeDriveStatusFrom node st s).alloc.fans }
        alarm := (takeDriveStatusFrom node st s).alarm } := by
  unfold takeDriveStatusFrom
  split
  · rw [takeDriveStatus_frame]
  · rw [takeUnclassified_frame]

theorem takeAnswer_frame (tr : Transaction) (payload : List Byte) (s : State) :
    takeAnswer tr payload s = { s with north := (takeAnswer tr payload s).north } := by
  unfold takeAnswer
  split <;> rfl

/-- The miss of a window writes a channel or a fan record, the REPORTs and the reply queue. -/
theorem deliverMiss_frame (tr : Transaction) (s : State) :
    deliverMiss tr s =
      { s with
        store := (deliverMiss tr s).store
        alloc := { s.alloc with fans := (deliverMiss tr s).alloc.fans }
        north := (deliverMiss tr s).north } := by
  unfold deliverMiss
  repeat' split
  · rw [takeChannelMiss_frame]
  · rfl
  · rw [takeFanMiss_frame]
  · rfl
  · rw [takeFanMiss_frame]
  · rfl
  · rfl
  · rfl

/-- The expiry of a running window ends the transaction, which is missed; any other has no effect. -/
theorem windowExpiry_cases (receiving : Bool) (s : State) :
    (∃ tr, s.scan.slot = some tr ∧ tr.windowBegun = true ∧
      windowExpiry receiving s = deliverMiss tr { s with
        lines := { s.lines with southRx := s.lines.southRx.noted receiving }
        scan := { s.scan with slot := none } }) ∨
    ((∀ tr, s.scan.slot = some tr → tr.windowBegun = false) ∧ windowExpiry receiving s = s) := by
  unfold windowExpiry
  cases slot : s.scan.slot with
  | none => exact .inr ⟨by simp, rfl⟩
  | some tr =>
    cases begun : tr.windowBegun
    · exact .inr ⟨by simp [begun], by simp [begun]⟩
    · exact .inl ⟨tr, rfl, begun, by simp [begun, closeSlot, beginReception_eq_noted]⟩

/-- R55: a conversion that ends is an OK reading of the converter's input; with none under way nothing ends. -/
theorem conversionStep_cases (sample : BitVec 12) (s : State) :
    (∃ i rest, s.converter = i :: rest ∧ conversionStep sample s =
      takeReading ⟨60 + i.val, by omega⟩ .none 0 .ok sample.toNat { s with converter := rest }) ∨
    (s.converter = [] ∧ conversionStep sample s = s) := by
  unfold conversionStep
  split
  · exact .inr ⟨‹_›, rfl⟩
  · exact .inl ⟨_, _, ‹_›, rfl⟩

/-! ### The cycle (R18 to R21, R121, R123, R187) -/

/-- The expiry of the cycle timer writes the scan, the converter and the Alarm Unit. -/
theorem timerExpiry_frame (s : State) :
    timerExpiry s =
      { s with
        scan := { (timerExpiry s).scan with slot := s.scan.slot, interleave := s.scan.interleave }
        converter := (timerExpiry s).converter, alarm := (timerExpiry s).alarm } := by
  unfold timerExpiry
  repeat' split
  · ext1 <;> simp [setOverrun]
  · ext1 <;> simp
  · rfl

/-- The end of a purge writes the device state with READY and the purge timer, the interlock and the Alarm
Unit. -/
theorem purgeExpiry_frame (s : State) :
    purgeExpiry s =
      { s with
        control := { device := .run, purgeTimer := none, ready := true }
        alloc := { s.alloc with inhibit := interlockOf .run s.tables s.zones }
        alarm := (purgeExpiry s).alarm } := by
  ext1 <;> simp [purgeExpiry]

theorem purgeTimerStep_cases (s : State) :
    (s.control.device = .purge ∧ (∃ n, s.control.purgeTimer = some (n + 1)) ∧
      purgeTimerStep s = purgeExpiry s) ∨ purgeTimerStep s = s := by
  unfold purgeTimerStep
  split
  · exact .inl ⟨‹_›, ⟨_, ‹_›⟩, rfl⟩
  · exact .inr rfl

/-- R121: the purge that ends at a close is one of 0 s. -/
theorem closePurge_cases (s : State) :
    (s.control.device = .purge ∧ s.control.purgeTimer = some 0 ∧ closePurge s = purgeExpiry s) ∨
      (¬ (s.control.device = .purge ∧ s.control.purgeTimer = some 0) ∧ closePurge s = s) := by
  unfold closePurge
  split
  · exact .inl ⟨‹_›, ‹_›, rfl⟩
  · next h => exact .inr ⟨fun c => h c.1 c.2, rfl⟩

/-- R187: the swap at a close comes with SWAP_PENDING. -/
theorem closeSwap_cases (s : State) :
    (s.banks.state = .swapPending ∧ closeSwap s = swapAtClose s) ∨
      (s.banks.state ≠ .swapPending ∧ closeSwap s = s) := by
  unfold closeSwap
  split
  · exact .inl ⟨‹_›, rfl⟩
  · next h => exact .inr ⟨h, rfl⟩

/-! ### The swap (R2, R186 to R188) -/

/-- R2: the north link after a swap's DONE has been built: the mark that the DONE carries, and an earlier
ACTIVATE's mark taken off. -/
theorem finishSwap_north (s : State) :
    (finishSwap s).north =
      { s.north with
        reserved := s.north.reserved - 1
        built :=
          (if northRateChanges s.site.north s.lines then
            s.north.built.map fun r => { r with mark := r.mark.withoutRate }
          else s.north.built) ++
          [{ source := s.address, echo := codeActivate, result := .done, payload := []
             mark := if northRateChanges s.site.north s.lines then .endsOldRate else .plain }] } := by
  simp only [finishSwap, buildResponse]

/-- R187: a swap at a close writes the records, the lines, the reply queue and the silence timer, the
outputs, the banks' roles and the relays. -/
theorem swapAtClose_frame (s : State) :
    swapAtClose s =
      { s with
        lines := (swapAtClose s).lines
        store := { s.store with channels := (swapAtClose s).store.channels }
        zones := (swapAtClose s).zones
        alloc := { s.alloc with fans := (swapAtClose s).alloc.fans }
        pwm := (swapAtClose s).pwm
        alarm := { (swapAtClose s).alarm with sources := s.alarm.sources }
        north := (swapAtClose s).north
        banks := { s.banks with active := some s.banks.standbyId, state := .idle } } := by
  ext1 <;> simp [swapAtClose, reinitialise]

/-! ### The south arbiter (R27 to R32) and the south line (R2, R7) -/

/-- R29: with the loop free a FAN_DRIVE clears the stray flags, and serves the flagged fan, if there is one. -/
theorem fanDriveStep_cases (s : State) :
    (loopFree s = true ∧ ∃ f, flaggedFan s = some f ∧
      fanDriveStep s = openFanDrive f (clearStrayFlags s)) ∨
    (loopFree s = true ∧ flaggedFan s = none ∧ fanDriveStep s = clearStrayFlags s) ∨
    (loopFree s = false ∧ fanDriveStep s = s) := by
  unfold fanDriveStep
  cases loopFree s
  · exact .inr (.inr ⟨rfl, rfl⟩)
  · cases flaggedFan s with
    | none => exact .inr (.inl ⟨rfl, rfl, rfl⟩)
    | some f => exact .inl ⟨rfl, f, rfl, rfl⟩

/-- R30: a RELAY_TRANSACTION that is the arbiter's choice opens it, any other opens nothing. -/
theorem relayStep_cases (s : State) :
    (loopFree s = true ∧ ∃ e, southChoice s = .relay e ∧ relayStep s = openRelay e (clearStrayFlags s)) ∨
      ((loopFree s = false ∨ ∀ e, southChoice s ≠ .relay e) ∧ relayStep s = s) := by
  unfold relayStep
  cases loopFree s
  · exact .inr ⟨.inl rfl, rfl⟩
  · cases southChoice s with
    | relay e => exact .inl ⟨rfl, e, rfl, rfl⟩
    | fan | scan | nothing => exact .inr ⟨.inr (by simp), rfl⟩

/-- R32: a SCAN_TRANSACTION that is the arbiter's choice opens it, any other opens nothing. -/
theorem scanStep_cases (s : State) :
    (loopFree s = true ∧ ∃ i, southChoice s = .scan i ∧ scanStep s = openScan i (clearStrayFlags s)) ∨
      ((loopFree s = false ∨ ∀ i, southChoice s ≠ .scan i) ∧ scanStep s = s) := by
  unfold scanStep
  cases loopFree s
  · exact .inr ⟨.inl rfl, rfl⟩
  · cases southChoice s with
    | scan i => exact .inl ⟨rfl, i, rfl, rfl⟩
    | fan | relay | nothing => exact .inr ⟨.inr (by simp), rfl⟩

/-- R7: the end of a transmission begins the open transaction's window. -/
theorem southSent_cases (s : State) :
    (s.lines.southTx ≠ none ∧ southSent s = { s with
      lines := { s.lines with southTx := none }
      scan := { s.scan with slot := s.scan.slot.map fun tr => { tr with windowBegun := true } } }) ∨
    (s.lines.southTx = none ∧ southSent s = s) := by
  unfold southSent
  cases s.lines.southTx with
  | none => exact .inr ⟨rfl, rfl⟩
  | some t => exact .inl ⟨by simp, rfl⟩

/-- R2: a pending south rate that takes effect, and one that does not. -/
theorem southRateStep_cases (s : State) :
    (∃ r, s.lines.southPending = some r ∧
      (s.scan.slot = none ∧ s.lines.southTx = none ∧ s.lines.southRx ≠ .receiving) ∧
      southRateStep s = { s with lines := { s.lines with southRate := r, southPending := none } }) ∨
    ((s.lines.southPending = none ∨
        ¬ (s.scan.slot = none ∧ s.lines.southTx = none ∧ s.lines.southRx ≠ .receiving)) ∧
      southRateStep s = s) := by
  unfold southRateStep
  cases s.lines.southPending with
  | none => exact .inr ⟨.inl rfl, rfl⟩
  | some r =>
    by_cases idle : s.scan.slot = none ∧ s.lines.southTx = none ∧ s.lines.southRx ≠ .receiving
    · exact .inl ⟨r, rfl, idle, if_pos idle⟩
    · exact .inr ⟨.inr idle, if_neg idle⟩

/-! ### The north transmitter (R2, R155 to R158, R189) -/

/-- A class that is served moves its item to the transmitter, or has none. -/
theorem serveClass_frame (c : NorthClass) (s : State) :
    serveClass c s =
      { s with
        lines := { s.lines with northTx := (serveClass c s).lines.northTx }
        alarm := { s.alarm with sources := (serveClass c s).alarm.sources }
        north := { s.north with
          reports := (serveClass c s).north.reports, built := (serveClass c s).north.built } } := by
  cases c
  · simp only [serveClass, sendAlert]
    split <;> rfl
  · simp only [serveClass, sendResponse]
    split <;> rfl
  · simp only [serveClass, sendReport]
    split <;> rfl

/-- R157: a choice serves the class that the arbiter finds, if the transmitter is free. -/
theorem northChoiceStep_cases (s : State) :
    (northFree s = true ∧ ∃ c, northClass s = some c ∧
      northChoiceStep s = serveClass c (updateCredits c s)) ∨
    ((northFree s = false ∨ northClass s = none) ∧ northChoiceStep s = s) := by
  unfold northChoiceStep
  cases northFree s
  · exact .inr ⟨.inl rfl, rfl⟩
  · cases northClass s with
    | none => exact .inr ⟨.inr rfl, rfl⟩
    | some c => exact .inl ⟨rfl, c, rfl, rfl⟩

/-- A choice writes the transmitter, a notice flag and the North Link Unit's queues and credits. -/
theorem northChoiceStep_frame (s : State) :
    northChoiceStep s =
      { s with
        lines := { s.lines with northTx := (northChoiceStep s).lines.northTx }
        alarm := { s.alarm with sources := (northChoiceStep s).alarm.sources }
        north := { s.north with
          reports := (northChoiceStep s).north.reports, built := (northChoiceStep s).north.built
          credits := (northChoiceStep s).north.credits } } := by
  rcases northChoiceStep_cases s with ⟨-, c, -, h⟩ | ⟨-, h⟩ <;> rw [h]
  rw [serveClass_frame]
  rfl

/-- R7, R156: the end of a transmission leaves the idle to be counted and brings its mark's effect. -/
theorem northSent_cases (receiving : Bool) (s : State) :
    (∃ tel mark, s.lines.northTx = .sending tel mark ∧
      northSent receiving s = markEffect mark { s with lines := { s.lines with
        northTx := .settling, northRx := s.lines.northRx.noted receiving } }) ∨
    ((∀ tel mark, s.lines.northTx ≠ .sending tel mark) ∧ northSent receiving s = s) := by
  unfold northSent
  cases s.lines.northTx with
  | settling | ready => exact .inr ⟨by simp, rfl⟩
  | sending tel mark => exact .inl ⟨tel, mark, rfl, by rw [← beginReception_eq_noted]⟩

theorem markEffect_frame (mark : ReplyMark) (s : State) :
    markEffect mark s =
      { s with
        lines := (markEffect mark s).lines
        banks := { s.banks with warmResetDue := (markEffect mark s).banks.warmResetDue } } := by
  cases mark <;> rfl

theorem northSent_frame (receiving : Bool) (s : State) :
    northSent receiving s =
      { s with
        lines := (northSent receiving s).lines
        banks := { s.banks with warmResetDue := (northSent receiving s).banks.warmResetDue } } := by
  rcases northSent_cases receiving s with ⟨_, _, _, h⟩ | ⟨_, h⟩ <;> rw [h]
  rw [markEffect_frame]

/-- R165: the expiry of a running silence timer drops the supervisor's work; any other has no effect. -/
theorem silenceExpiry_cases (s : State) :
    (∃ n, s.north.silence = .running n ∧
      silenceExpiry s = evalRelays (handCondition sourceSupervisorLost true (dropSupervisorWork s))) ∨
    ((∀ n, s.north.silence ≠ .running n) ∧ silenceExpiry s = s) := by
  unfold silenceExpiry
  cases s.north.silence with
  | stopped | expired => exact .inr ⟨by simp, rfl⟩
  | running n => exact .inl ⟨n, rfl, rfl⟩

/-! ### Idle lines and discarded telegrams (R3 to R7) -/

/-- The end of a reception writes the lines alone. -/
theorem endReception_frame (line : Line) (s : State) :
    endReception line s = { s with lines := (endReception line s).lines } := by
  cases line <;> rfl

theorem idleStep_frame (line : IdleLine) (s : State) :
    idleStep line s = { s with lines := (idleStep line s).lines } := by
  cases line with
  | south receiving =>
    simp only [idleStep, southIdle, receiverIdle]
    repeat' split
    all_goals rfl
  | northReceive receiving =>
    simp only [idleStep, northReceiveIdle, receiverIdle]
    split <;> rfl
  | northTransmit =>
    simp only [idleStep, northTransmitIdle]
    split <;> rfl

/-- R3: an abandoned telegram ends its reception, where there is one to abandon. -/
theorem abandonStep_cases (line : Line) (cause : AbandonCause) (s : State) :
    (abandons cause (s.lines.rx line) = true ∧ abandonStep line cause s = endReception line s) ∨
      (abandons cause (s.lines.rx line) = false ∧ abandonStep line cause s = s) := by
  unfold abandonStep
  cases abandons cause (s.lines.rx line)
  · exact .inr ⟨rfl, rfl⟩
  · exact .inl ⟨rfl, rfl⟩

/-- R6: a telegram that is discarded ends its reception, unless its receiver is in HUNT. -/
theorem discardStep_cases (line : Line) (chars : List Byte) (s : State) :
    (s.lines.rx line ≠ .hunt ∧ isDiscarded line chars s = true ∧
      discardStep line chars s = endReception line s) ∨
    ((s.lines.rx line = .hunt ∨ isDiscarded line chars s = false) ∧ discardStep line chars s = s) := by
  unfold discardStep
  by_cases rx : s.lines.rx line = .hunt
  · exact .inr ⟨.inl rx, by simp [rx]⟩
  · cases discarded : isDiscarded line chars s
    · exact .inr ⟨.inr rfl, by simp⟩
    · exact .inl ⟨rx, rfl, by simp [rx]⟩

/-- An abandoned telegram takes no receiver out of HUNT, for a receiver in HUNT takes none. -/
theorem rx_ne_hunt_of_abandons {cause : AbandonCause} {rx : RxState} (h : abandons cause rx = true) :
    rx ≠ .hunt := by
  rintro rfl
  cases cause <;> simp [abandons] at h

end Sys2Proof.Machine
end

section
/-! SUPPORT. What no command but a reset changes: the reset inputs, the own address, the queue. Settles
EveryCommandCompletes and StepKeepsOwnAddress. -/

namespace Sys2Proof.Machine

/-- R8, R126: the part before and after has the same reset inputs, the same address and the same queue. -/
structure SamePart (s t : State) : Prop where
  hold : t.hold = s.hold
  address : t.address = s.address
  pending : t.pending = s.pending

theorem SamePart.refl (s : State) : SamePart s s := ⟨rfl, rfl, rfl⟩

theorem SamePart.trans {s t u : State} (h : SamePart s t) (k : SamePart t u) : SamePart s u :=
  ⟨k.hold.trans h.hold, k.address.trans h.address, k.pending.trans h.pending⟩

/-! ### North and south arrivals -/

theorem samePart_receiveNorth (t : Telegram) (s : State) : SamePart s (receiveNorth t s) := by
  constructor <;> rw [receiveNorth_frame]

/-- A reply keeps the part the same if what it is handed to does. -/
theorem samePart_receiveSouth (t : Telegram) {take : Transaction → State → State} (s : State)
    (h : ∀ tr u, SamePart u (take tr u)) : SamePart s (receiveSouth t take s) := by
  rcases receiveSouth_cases t take s with ⟨_, e⟩ | ⟨_, _, tr, _, _, e⟩ | ⟨_, _, e⟩ <;> rw [e]
  · exact .refl s
  · exact SamePart.trans (t := s.afterReply) ⟨rfl, rfl, rfl⟩ (h tr _)
  · exact ⟨rfl, rfl, rfl⟩

theorem samePart_windowExpiry (receiving : Bool) (s : State) : SamePart s (windowExpiry receiving s) := by
  rcases windowExpiry_cases receiving s with ⟨_, _, _, e⟩ | ⟨_, e⟩ <;> rw [e]
  · rw [deliverMiss_frame]
    exact ⟨rfl, rfl, rfl⟩
  · exact .refl s

/-! ### The cycle and the activation -/

theorem samePart_cycleStart (s : State) : SamePart s (cycleStart s) := by
  constructor <;> simp

theorem samePart_purgeExpiry (s : State) : SamePart s (purgeExpiry s) := by
  constructor <;> rw [purgeExpiry_frame]

theorem samePart_enterPurge (s : State) : SamePart s (enterPurge s) := by
  constructor <;> simp [enterPurge]

theorem samePart_closeCycle (s : State) : SamePart s (closeCycle s) := by
  have work : SamePart s (closeWork s) := by
    constructor <;> rw [closeWork_frame]
  have swap : ∀ u, SamePart u (closeSwap u) := fun u => by
    rcases closeSwap_cases u with ⟨_, e⟩ | ⟨_, e⟩ <;> rw [e]
    · constructor <;> rw [swapAtClose_frame]
    · exact .refl u
  have purge : ∀ u, SamePart u (closePurge u) := fun u => by
    rcases closePurge_cases u with ⟨_, _, e⟩ | ⟨_, e⟩ <;> rw [e]
    · exact samePart_purgeExpiry u
    · exact .refl u
  have all := (work.trans (swap _)).trans (purge _)
  simp only [closeCycle]
  split
  · exact all.trans (samePart_cycleStart _)
  · exact all

theorem samePart_checkEndStep (s : State) : SamePart s (checkEndStep s) := by
  have first : SamePart s (firstActivation s) := by
    constructor <;> simp [firstActivation, enterPurge]
  unfold checkEndStep checkEnd
  repeat' split
  · exact ⟨rfl, rfl, rfl⟩
  · exact ⟨rfl, rfl, rfl⟩
  · exact first
  · exact ⟨rfl, rfl, rfl⟩
  · exact .refl s

theorem samePart_warmReset (s : State) (h : s.held = false) : SamePart s (warmReset s) := by
  have hold : s.hold = .none := by
    obtain ⟨low, supply⟩ : s.hold.resetLow = false ∧ s.hold.supplyLow = false := by
      simpa [State.held, Hold.any] using h
    cases e : s.hold with
    | mk r v => rw [e] at low supply; cases low; cases supply; rfl
  have blocks : SamePart s (setOutputs (warmBlocks s)) := by
    constructor <;> simp [warmBlocks, State.reset, hold]
  simp only [warmReset]
  split
  · exact blocks.trans (by constructor <;> simp)
  · exact blocks.trans ((samePart_enterPurge _).trans (by constructor <;> simp))

/-! ### The loop arbiter and the timers -/

theorem samePart_clearStrayFlags (s : State) : SamePart s (clearStrayFlags s) := by
  constructor <;> simp

theorem samePart_fanDriveStep (s : State) : SamePart s (fanDriveStep s) := by
  rcases fanDriveStep_cases s with ⟨_, f, _, e⟩ | ⟨_, _, e⟩ | ⟨_, e⟩ <;> rw [e]
  · constructor <;> simp [openFanDrive]
  · exact samePart_clearStrayFlags s
  · exact .refl s

theorem samePart_relayStep (s : State) : SamePart s (relayStep s) := by
  rcases relayStep_cases s with ⟨_, entry, _, e⟩ | ⟨_, e⟩ <;> rw [e]
  · constructor <;> simp [openRelay]
  · exact .refl s

theorem samePart_scanStep (s : State) : SamePart s (scanStep s) := by
  rcases scanStep_cases s with ⟨_, i, _, e⟩ | ⟨_, e⟩ <;> rw [e]
  · constructor <;> simp [openScan]
  · exact .refl s

theorem samePart_silenceExpiry (s : State) : SamePart s (silenceExpiry s) := by
  rcases silenceExpiry_cases s with ⟨n, _, e⟩ | ⟨_, e⟩ <;> rw [e]
  · constructor <;> simp
  · exact .refl s

theorem samePart_conversionStep (sample : BitVec 12) (s : State) :
    SamePart s (conversionStep sample s) := by
  rcases conversionStep_cases sample s with ⟨_, _, _, e⟩ | ⟨_, e⟩ <;> rw [e]
  · rw [takeReading_frame]
    exact ⟨rfl, rfl, rfl⟩
  · exact .refl s

/-! ### All commands -/

/-- R8, R126: a command other than the two reset pins leaves the reset inputs, the address and the queue. -/
theorem effect_samePart (c : Instr) (s : State) (held : s.held = false) (noRelease : ∀ r, c ≠ .coldReset r)
    (noHold : ∀ k, c ≠ .resetHold k) : SamePart s (effect c s) := by
  cases c with
  | coldReset r => exact absurd rfl (noRelease r)
  | resetHold k => exact absurd rfl (noHold k)
  | warmReset =>
    simp only [effect]
    split
    · exact samePart_warmReset s held
    · exact .refl s
  | tableWrite | tableRead | activate | acknowledge | status | readChannels | readZone | readFan | restart
  | driveSet | command | dispatchBadRequest | unknownRequest => exact samePart_receiveNorth _ s
  | reading =>
    refine samePart_receiveSouth _ s fun tr u => ?_
    constructor <;> rw [takeReadingFrom_frame]
  | driveStatus =>
    refine samePart_receiveSouth _ s fun tr u => ?_
    constructor <;> rw [takeDriveStatusFrom_frame]
  | answer =>
    refine samePart_receiveSouth _ s fun tr u => ?_
    constructor <;> rw [takeAnswer_frame]
  | replyWindowExpiry receiving => exact samePart_windowExpiry receiving s
  | localConversionComplete sample => exact samePart_conversionStep sample s
  | cycleTimerExpiry => constructor <;> simp only [effect] <;> rw [timerExpiry_frame]
  | cycleClose =>
    simp only [effect]
    split
    · exact samePart_closeCycle s
    · exact .refl s
  | fanDrive => exact samePart_fanDriveStep s
  | relayTransaction => exact samePart_relayStep s
  | scanTransaction => exact samePart_scanStep s
  | southRateChange =>
    rcases southRateStep_cases s with ⟨_, _, _, e⟩ | ⟨_, e⟩ <;> simp only [effect, e]
    · exact ⟨rfl, rfl, rfl⟩
    · exact .refl s
  | northChoice => constructor <;> simp only [effect] <;> rw [northChoiceStep_frame]
  | northTransmissionEnd receiving => constructor <;> simp only [effect] <;> rw [northSent_frame]
  | activationCheckEnd => exact samePart_checkEndStep s
  | purgeTimerExpiry =>
    rcases purgeTimerStep_cases s with ⟨_, _, e⟩ | e <;> simp only [effect, e]
    · exact samePart_purgeExpiry s
    · exact .refl s
  | supervisorSilenceExpiry => exact samePart_silenceExpiry s
  | tachPulse | pwmPeriodEnd => exact ⟨rfl, rfl, rfl⟩
  | lineIdle line => constructor <;> simp only [effect] <;> rw [idleStep_frame]
  | telegramAbandoned line cause =>
    rcases abandonStep_cases line cause s with ⟨_, e⟩ | ⟨_, e⟩ <;> simp only [effect, e]
    · constructor <;> rw [endReception_frame]
    · exact .refl s
  | discardedTelegram line chars =>
    rcases discardStep_cases line chars s with ⟨_, _, e⟩ | ⟨_, e⟩ <;> simp only [effect, e]
    · constructor <;> rw [endReception_frame]
    · exact .refl s
  | southTransmissionEnd =>
    rcases southSent_cases s with ⟨_, e⟩ | ⟨_, e⟩ <;> simp only [effect, e]
    · exact ⟨rfl, rfl, rfl⟩
    · exact .refl s

/-! ### The two reset pins -/

/-- R196: the address that a strap gives is one of 248 to 255. -/
theorem strapAddress_ge (strap : BitVec 3) : 248 ≤ (248#8 + strap.setWidth 8).toNat := by
  have bound := strap.isLt
  rw [BitVec.toNat_add, BitVec.toNat_setWidth, Nat.mod_eq_of_lt (a := strap.toNat) (by omega)]
  simp only [BitVec.toNat_ofNat]
  omega

/-- A release keeps the queue. -/
theorem releaseHold_pending (release : Release) (s : State) :
    (releaseHold release s).pending = s.pending := by
  rcases releaseHold_cases release s with ⟨_, e⟩ | ⟨_, _, e⟩ | ⟨_, _, e⟩ <;> rw [e]
  rfl

/-- R8, R196: a release keeps the address or samples the strap. -/
theorem releaseHold_ownAddress (release : Release) {s : State} (h : s.OwnAddress) :
    (releaseHold release s).OwnAddress := by
  rcases releaseHold_cases release s with ⟨_, e⟩ | ⟨_, _, e⟩ | ⟨_, _, e⟩ <;> rw [e]
  · exact h
  · exact h
  · exact strapAddress_ge _

/-- A hold keeps the address and the queue. -/
theorem effect_resetHold_address_pending (cause : HoldCause) (s : State) :
    (effect (.resetHold cause) s).address = s.address ∧
      (effect (.resetHold cause) s).pending = s.pending := by
  simp only [effect]
  split <;> exact ⟨rfl, rfl⟩

/-- The effect of every command that the part can take keeps the queue. -/
theorem effect_pending (c : Instr) (s : State)
    (taken : s.held = true → (∃ r, c = .coldReset r) ∨ ∃ k, c = .resetHold k) :
    (effect c s).pending = s.pending := by
  by_cases release : ∃ r, c = .coldReset r
  · obtain ⟨r, rfl⟩ := release
    exact releaseHold_pending r s
  by_cases cause : ∃ k, c = .resetHold k
  · obtain ⟨k, rfl⟩ := cause
    exact (effect_resetHold_address_pending k s).2
  have held : s.held = false := Bool.eq_false_iff.2 fun h => (taken h).elim release cause
  exact (effect_samePart c s held (fun r e => release ⟨r, e⟩) (fun k e => cause ⟨k, e⟩)).pending

/-! ### The statements -/

/-- Settles O2: a command is not taken, or has its effect, and neither touches the queue. -/
theorem everyCommandCompletes : Obligations.EveryCommandCompletes := by
  intro c s
  cases held : s.held
  · exact ⟨_, exec_of_running c held, effect_pending c s (by simp [held])⟩
  · rcases exec_of_held c held with e | ⟨reset, e⟩
    · exact ⟨s, e, rfl⟩
    · exact ⟨_, e, effect_pending c s fun _ => reset⟩

/-- Settles O60: only a cold reset changes the address, and it takes it from the strap. -/
theorem stepKeepsOwnAddress : Obligations.StepKeepsOwnAddress := by
  refine step_keeps (fun s q h => h) fun c s taken h => ?_
  by_cases release : ∃ r, c = .coldReset r
  · obtain ⟨r, rfl⟩ := release
    exact releaseHold_ownAddress r h
  by_cases cause : ∃ k, c = .resetHold k
  · obtain ⟨k, rfl⟩ := cause
    rw [State.OwnAddress, (effect_resetHold_address_pending k s).1]
    exact h
  have held : s.held = false := Bool.eq_false_iff.2 fun h => (taken h).elim release cause
  rw [State.OwnAddress,
    (effect_samePart c s held (fun r e => release ⟨r, e⟩) (fun k e => cause ⟨k, e⟩)).address]
  exact h

end Sys2Proof.Machine
end

section
/-! SUPPORT. What an arrival on the north link comes to, and what a swap, a warm reset and a cycle start leave
on the lines and in the slot. -/

namespace Sys2Proof.Machine

/-! ### North arrivals (R12, R13, R161) -/

theorem freeReplies_eq_zero_iff (s : State) : s.north.freeReplies = 0 ↔ ¬ s.replyFree := by
  simp only [NorthLink.freeReplies, State.replyFree]
  omega

/-- With no bank active an arrival ends its reception alone. -/
theorem afterArrival_unconfigured {s : State} (h : s.control.device = .unconfigured) :
    s.afterArrival = { s with lines := northReceptionEnded s.lines } := by
  rw [State.afterArrival, endReception_north]
  exact restartSilence_unconfigured h

/-- In PURGE and RUN an arrival also starts the silence timer again and clears SUPERVISOR LOST. -/
theorem afterArrival_configured {s : State} (h : s.control.device ≠ .unconfigured) :
    s.afterArrival =
      if s.north.supervisorLost = true then
        evalRelays (handCondition sourceSupervisorLost false { s with
          lines := northReceptionEnded s.lines
          north := { s.north with silence := s.silenceStarted, supervisorLost := false } })
      else { s with
        lines := northReceptionEnded s.lines
        north := { s.north with silence := s.silenceStarted } } := by
  rw [State.afterArrival, endReception_north]
  exact restartSilence_configured h

/-- What a telegram that has been taken in as supervisor traffic leaves before it is dispatched. -/
theorem afterArrival_frame (s : State) :
    s.afterArrival = { s with
      lines := northReceptionEnded s.lines
      alarm := s.afterArrival.alarm
      north := { s.north with
        silence := s.afterArrival.north.silence
        supervisorLost := s.afterArrival.north.supervisorLost } } := by
  by_cases h : s.control.device = .unconfigured
  · rw [afterArrival_unconfigured h]
  · rw [afterArrival_configured h]
    split <;> ext1 <;> simp

/-- The tables stand through an arrival, before it is dispatched. -/
theorem afterArrival_tables (s : State) : s.afterArrival.tables = s.tables := by
  rw [State.tables, State.tables, afterArrival_frame]

/-- What a north telegram comes to: not received, discarded, without a reply entry, or dispatched. -/
theorem receiveNorth_cases (t : Telegram) (s : State) :
    (s.lines.northRx = .hunt ∧ receiveNorth t s = s) ∨
    (s.lines.northRx ≠ .hunt ∧ (passesR9 .north t = false ∨ isSupervisorTraffic s.address t = false) ∧
      receiveNorth t s = { s with lines := northReceptionEnded s.lines }) ∨
    (s.lines.northRx ≠ .hunt ∧ passesR9 .north t = true ∧ isSupervisorTraffic s.address t = true ∧
      ((¬ s.replyFree ∧ receiveNorth t s = s.afterArrival) ∨
      (s.replyFree ∧ t.dest = s.address ∧
        receiveNorth t s = dispatchOwn t (reserveReply s.afterArrival)) ∨
      (s.replyFree ∧ t.dest ≠ s.address ∧
        receiveNorth t s = dispatchNode t (reserveReply s.afterArrival)))) := by
  by_cases rx : s.lines.northRx = .hunt
  · exact .inl ⟨rx, by simp [receiveNorth, rx]⟩
  refine .inr ?_
  have received : receiveNorth t s =
      if passesR9 .north t then arriveNorth t (endReception .north s) else endReception .north s := by
    unfold receiveNorth
    split
    · exact absurd ‹_› rx
    · rfl
  cases passes : passesR9 .north t
  · exact .inl ⟨rx, .inl rfl, by rw [received, passes, if_neg (by simp), endReception_north]⟩
  rw [passes, if_pos rfl] at received
  have address : (endReception .north s).address = s.address := by rw [endReception_frame]
  cases traffic : isSupervisorTraffic s.address t
  · refine .inl ⟨rx, .inr rfl, ?_⟩
    rw [received, arriveNorth, address, traffic, if_neg (by simp), endReception_north]
  refine .inr ⟨rx, rfl, rfl, ?_⟩
  have free : s.afterArrival.north.freeReplies = 0 ↔ ¬ s.replyFree := by
    rw [freeReplies_eq_zero_iff, State.replyFree, State.replyFree, afterArrival_frame]
  simp only [arriveNorth, address, traffic, if_true] at received
  rw [← State.afterArrival] at received
  by_cases full : s.replyFree
  · rw [if_neg fun h => free.1 h full] at received
    by_cases own : t.dest = s.address
    · exact .inr (.inl ⟨full, own, by rw [received, if_pos own]⟩)
    · exact .inr (.inr ⟨full, own, by rw [received, if_neg own]⟩)
  · exact .inl ⟨full, by rw [received, if_pos (free.2 full)]⟩

/-- A telegram to the own address writes the Bank Manager, the Alarm Unit and the North Link Unit. -/
theorem dispatchOwn_frame (t : Telegram) (s : State) :
    dispatchOwn t s = { s with
      banks := (dispatchOwn t s).banks, alarm := (dispatchOwn t s).alarm
      north := (dispatchOwn t s).north } := by
  unfold dispatchOwn
  split
  · rw [serveRequest_frame]
  · rfl

/-- A telegram to a field node writes a fan record, the relay queue and the reply queue. -/
theorem dispatchNode_frame (t : Telegram) (s : State) :
    dispatchNode t s = { s with
      alloc := { s.alloc with fans := (dispatchNode t s).alloc.fans }
      relayQueue := (dispatchNode t s).relayQueue
      north := (dispatchNode t s).north } := by
  unfold dispatchNode
  split
  · rw [takeDriveSet_frame]
  · rw [screenCandidate_frame]
  · rfl

/-- A north telegram ends its reception, and writes nothing else on the lines. -/
theorem receiveNorth_lines (t : Telegram) (s : State) :
    (receiveNorth t s).lines =
      if s.lines.northRx = .hunt then s.lines else northReceptionEnded s.lines := by
  rcases receiveNorth_cases t s with ⟨rx, e⟩ | ⟨rx, _, e⟩ | ⟨rx, _, _, ⟨_, e⟩ | ⟨_, _, e⟩ | ⟨_, _, e⟩⟩ <;>
    rw [e]
  · rw [if_pos rx]
  · rw [if_neg rx]
  · rw [if_neg rx, afterArrival_frame]
  · rw [if_neg rx, dispatchOwn_frame, reserveReply_lines, afterArrival_frame]
  · rw [if_neg rx, dispatchNode_frame, reserveReply_lines, afterArrival_frame]

/-! ### Rates at a swap (R2) -/

/-- R2: a swap leaves the south rate and everything north, and a changed rate pending. -/
theorem southRateAtSwap_eq (new : BitRate) (l : Lines) :
    southRateAtSwap new l = { l with
      southPending := if l.southPending = none ∧ new = l.southRate then none else some new } := by
  unfold southRateAtSwap
  split
  · next h => rw [← h.1]
  · rfl

theorem northRateChanges_eq_false_iff (new : BitRate) (l : Lines) :
    northRateChanges new l = false ↔ l.northPending = .none ∧ new = l.northRate := by
  simp [northRateChanges]

/-- R2: a swap leaves the north rate; a changed one waits for the ACTIVATE's RESPONSE. -/
theorem northRateAtSwap_eq (new : BitRate) (l : Lines) :
    northRateAtSwap new l = { l with
      northPending := if northRateChanges new l then .awaitingResponse new else l.northPending
      northTx := if northRateChanges new l then l.northTx.withoutRate else l.northTx } := by
  unfold northRateAtSwap
  cases northRateChanges new l <;> rfl

/-- R2: what a swap changes on the lines. -/
theorem finishSwap_lines_frame (s : State) :
    (finishSwap s).lines = { s.lines with
      southPending :=
        if s.lines.southPending = none ∧ s.site.south = s.lines.southRate then none else some s.site.south
      northPending :=
        if northRateChanges s.site.north s.lines then .awaitingResponse s.site.north
        else s.lines.northPending
      northTx :=
        if northRateChanges s.site.north s.lines then s.lines.northTx.withoutRate
        else s.lines.northTx } := by
  rw [finishSwap_lines, southRateAtSwap_eq, northRateAtSwap_eq]
  rfl

/-! ### The close, the first activation and the warm reset, field by field -/

/-- A swap's rates and its DONE come from the new bank, which the swap's other work leaves. -/
theorem swapAtClose_lines (s : State) :
    (swapAtClose s).lines =
      (finishSwap (exchangeBanks (reinitialise s.tables s.banks.standbyBank s))).lines := by
  simp only [swapAtClose, evalRelays_lines, writeOutputs_lines, setSilence_lines]

theorem firstActivation_lines (s : State) :
    (firstActivation s).lines = (finishSwap (exchangeBanks (reinitialiseAll s))).lines := by
  simp [firstActivation, enterPurge]

theorem warmReset_lines (s : State) : (warmReset s).lines = warmLines s.banks := by
  simp only [warmReset]
  split <;> simp [enterPurge, warmBlocks]

/-- R15: the lines after a warm reset, but for the rates. -/
theorem warmLines_eq (b : BankManager) :
    warmLines b = { Lines.initial with
      southRate := (warmLines b).southRate, northRate := (warmLines b).northRate } := by
  unfold warmLines
  split <;> rfl

/-- What the last part of a close writes of the lines and the slot. -/
theorem closePurge_lines_slot (s : State) :
    (closePurge s).lines = s.lines ∧ (closePurge s).scan = s.scan := by
  rcases closePurge_cases s with ⟨_, _, e⟩ | ⟨_, e⟩ <;> rw [e]
  · rw [purgeExpiry_frame]
    exact ⟨rfl, rfl⟩
  · exact ⟨rfl, rfl⟩

/-- A close writes the lines as its swap does. -/
theorem closeCycle_lines (s : State) : (closeCycle s).lines = (closeSwap (closeWork s)).lines := by
  simp only [closeCycle]
  split <;> simp [closePurge_lines_slot]

/-- R33: a close leaves the slot. -/
theorem closeCycle_slot (s : State) : (closeCycle s).scan.slot = s.scan.slot := by
  have work : (closeWork s).scan.slot = s.scan.slot := by rw [closeWork_frame]
  have swap : ∀ u, (closeSwap u).scan = u.scan := fun u => by
    rcases closeSwap_cases u with ⟨_, e⟩ | ⟨_, e⟩ <;> rw [e]
    rw [swapAtClose_frame]
  simp only [closeCycle]
  split <;> simp [closePurge_lines_slot, swap, work]

end Sys2Proof.Machine
end

section
/-! The discipline of the south line (R7, R23, R24, R38), kept by every command. Settles
StepKeepsSouthDiscipline. -/

namespace Sys2Proof.Machine

/-! ### What keeps the discipline -/

/-- A part that leaves the south line and the slot keeps the discipline. -/
theorem State.SouthDiscipline.congr {s t : State} (h : s.SouthDiscipline)
    (tx : t.lines.southTx = s.lines.southTx) (rx : t.lines.southRx = s.lines.southRx)
    (slot : t.scan.slot = s.scan.slot) : t.SouthDiscipline where
  hunt := by rw [tx, rx]; exact h.hunt
  slot := by rw [tx, slot]; exact h.slot
  window := by rw [tx, slot]; exact h.window

/-- A part that transmits nothing south is in order while no open transaction waits for its telegram's end. -/
theorem southDiscipline_of_silent {s : State} (silent : s.lines.southTx = none)
    (begun : ∀ tr, s.scan.slot = some tr → tr.windowBegun = true) : s.SouthDiscipline where
  hunt := by simp [silent]
  slot := by simp [silent]
  window := fun tr open_ waits => absurd (begun tr open_) (by simp [waits])

/-- A receiver that is not in HUNT belongs to a part that transmits nothing south. -/
theorem State.SouthDiscipline.silent_of_rx {s : State} (h : s.SouthDiscipline)
    (rx : s.lines.southRx ≠ .hunt) : s.lines.southTx = none := by
  by_contra sending
  exact rx (h.hunt sending)

/-- In a part that transmits nothing south an open transaction's window runs. -/
theorem State.SouthDiscipline.begun_of_silent {s : State} (h : s.SouthDiscipline)
    (silent : s.lines.southTx = none) (tr : Transaction) (open_ : s.scan.slot = some tr) :
    tr.windowBegun = true := by
  by_contra waits
  exact h.window tr open_ (by simpa using waits) silent

/-- A receiver that goes to HUNT is in order, transmission or not. -/
theorem State.SouthDiscipline.hunted {s t : State} (h : s.SouthDiscipline)
    (tx : t.lines.southTx = s.lines.southTx) (rx : t.lines.southRx = .hunt)
    (slot : t.scan.slot = s.scan.slot) : t.SouthDiscipline where
  hunt := fun _ => rx
  slot := by rw [tx, slot]; exact h.slot
  window := by rw [tx, slot]; exact h.window

/-! ### Operation by operation -/

/-- R23: a transaction that opens is in order. -/
theorem southDiscipline_openTransaction (t : Telegram) (purpose : Purpose) (windowMs : Nat) (s : State) :
    (openTransaction t purpose windowMs s).SouthDiscipline where
  hunt := by simp
  slot := by simp
  window := by simp

/-- R25: a reply ends the transaction, or its reception alone. -/
theorem southDiscipline_receiveSouth (t : Telegram) {take : Transaction → State → State} {s : State}
    (h : s.SouthDiscipline)
    (leaves : ∀ tr u, (take tr u).lines = u.lines ∧ (take tr u).scan = u.scan) :
    (receiveSouth t take s).SouthDiscipline := by
  rcases receiveSouth_cases t take s with ⟨_, e⟩ | ⟨rx, _, tr, _, _, e⟩ | ⟨_, _, e⟩ <;> rw [e]
  · exact h
  · obtain ⟨lines, scan⟩ := leaves tr s.afterReply
    refine southDiscipline_of_silent ?_ ?_
    · rw [lines]; exact h.silent_of_rx rx
    · rw [scan]; simp [State.afterReply]
  · exact h.hunted rfl rfl rfl

/-- R26: a window that expires runs, so nothing is in transmission. -/
theorem southDiscipline_windowExpiry (receiving : Bool) {s : State} (h : s.SouthDiscipline) :
    (windowExpiry receiving s).SouthDiscipline := by
  rcases windowExpiry_cases receiving s with ⟨tr, open_, begun, e⟩ | ⟨_, e⟩ <;> rw [e]
  · have silent : s.lines.southTx = none := by
      by_contra sending
      obtain ⟨t, tx⟩ := Option.ne_none_iff_exists'.1 sending
      obtain ⟨tr', open', _, waits⟩ := h.slot t tx
      rw [open_, Option.some.injEq] at open'
      rw [← open', begun] at waits
      cases waits
    rw [deliverMiss_frame]
    exact southDiscipline_of_silent silent (by simp)
  · exact h

/-- R7, R24: the end of a transmission begins the window. -/
theorem southDiscipline_southSent {s : State} (h : s.SouthDiscipline) : (southSent s).SouthDiscipline := by
  rcases southSent_cases s with ⟨_, e⟩ | ⟨_, e⟩ <;> rw [e]
  · exact southDiscipline_of_silent rfl (by simp)
  · exact h

theorem southDiscipline_endReception (line : Line) {s : State} (h : s.SouthDiscipline) :
    (endReception line s).SouthDiscipline := by
  cases line
  · exact h.hunted rfl rfl rfl
  · rw [endReception_north]
    exact h.congr rfl rfl rfl

/-- R7: idle arms the south receiver of a silent part alone. -/
theorem southDiscipline_idleStep (line : IdleLine) {s : State} (h : s.SouthDiscipline) :
    (idleStep line s).SouthDiscipline := by
  cases line with
  | south receiving =>
    simp only [idleStep, southIdle]
    split
    · exact h
    · next sending =>
      have silent : s.lines.southTx = none := by simpa using sending
      unfold receiverIdle
      split
      · exact southDiscipline_of_silent silent (h.begun_of_silent silent)
      · exact h
      · exact southDiscipline_endReception .south h
  | northReceive receiving =>
    simp only [idleStep, northReceiveIdle, receiverIdle]
    split
    · exact h.congr rfl rfl rfl
    · exact h
    · exact southDiscipline_endReception .north h
  | northTransmit =>
    simp only [idleStep, northTransmitIdle]
    split
    · exact h.congr rfl rfl rfl
    · exact h

/-- R29: a FAN_DRIVE opens a transaction or leaves the line. -/
theorem southDiscipline_fanDriveStep {s : State} (h : s.SouthDiscipline) :
    (fanDriveStep s).SouthDiscipline := by
  rcases fanDriveStep_cases s with ⟨_, f, _, e⟩ | ⟨_, _, e⟩ | ⟨_, e⟩ <;> rw [e]
  · exact southDiscipline_openTransaction _ _ _ _
  · exact h.congr rfl rfl rfl
  · exact h

/-- R2, R33: a swap changes no telegram, no receiver and no transaction. -/
theorem southDiscipline_closeCycle {s : State} (h : s.SouthDiscipline) : (closeCycle s).SouthDiscipline := by
  have lines : (closeCycle s).lines.southTx = s.lines.southTx ∧
      (closeCycle s).lines.southRx = s.lines.southRx := by
    have work : (closeWork s).lines = s.lines := by rw [closeWork_frame]
    rw [closeCycle_lines]
    rcases closeSwap_cases (closeWork s) with ⟨_, e⟩ | ⟨_, e⟩ <;> rw [e]
    · rw [swapAtClose_lines, finishSwap_lines_frame]
      simp [reinitialise, work]
    · simp [work]
  exact h.congr lines.1 lines.2 (closeCycle_slot s)

theorem southDiscipline_checkEndStep {s : State} (h : s.SouthDiscipline) :
    (checkEndStep s).SouthDiscipline := by
  unfold checkEndStep checkEnd
  repeat' split
  · exact h.congr rfl rfl rfl
  · exact h.congr rfl rfl rfl
  · refine h.congr ?_ ?_ ?_
    · rw [firstActivation_lines, finishSwap_lines_frame]; simp
    · rw [firstActivation_lines, finishSwap_lines_frame]; simp
    · simp [firstActivation, enterPurge]
  · exact h.congr rfl rfl rfl
  · exact h

/-- R15, R127: a warm reset silences the line and empties the slot. -/
theorem southDiscipline_warmReset (s : State) : (warmReset s).SouthDiscipline := by
  refine southDiscipline_of_silent ?_ ?_
  · rw [warmReset_lines, warmLines_eq]; rfl
  · simp only [warmReset]
    split <;> simp [enterPurge, warmBlocks, State.reset, ScanEngine.initial]

/-- R15, R126: after a reset the line is silent and the slot empty. -/
theorem southDiscipline_reset {s : State} (lines : s.lines = Lines.initial)
    (scan : s.scan = ScanEngine.initial) : s.SouthDiscipline :=
  southDiscipline_of_silent (by rw [lines]; rfl) (by rw [scan]; simp [ScanEngine.initial])

theorem southDiscipline_releaseHold (release : Release) {s : State} (h : s.SouthDiscipline) :
    (releaseHold release s).SouthDiscipline := by
  rcases releaseHold_cases release s with ⟨_, e⟩ | ⟨_, _, e⟩ | ⟨_, _, e⟩ <;> rw [e]
  · exact h
  · exact h.congr rfl rfl rfl
  · exact southDiscipline_reset rfl rfl

/-! ### All commands -/

theorem effect_keeps_southDiscipline (c : Instr) {s : State} (h : s.SouthDiscipline) :
    (effect c s).SouthDiscipline := by
  cases c with
  | coldReset r => exact southDiscipline_releaseHold r h
  | resetHold k =>
    simp only [effect]
    split
    · exact southDiscipline_reset rfl rfl
    · exact h
  | warmReset =>
    simp only [effect]
    split
    · exact southDiscipline_warmReset s
    · exact h
  | tableWrite | tableRead | activate | acknowledge | status | readChannels | readZone | readFan | restart
  | driveSet | command | dispatchBadRequest | unknownRequest =>
    have arrival : ∀ t : Telegram, (receiveNorth t s).SouthDiscipline := fun t => by
      rw [receiveNorth_frame]
      refine h.congr ?_ ?_ rfl <;> simp only [receiveNorth_lines] <;> split <;> rfl
    exact arrival _
  | reading =>
    refine southDiscipline_receiveSouth _ h fun tr u => ?_
    rw [takeReadingFrom_frame]
    exact ⟨rfl, rfl⟩
  | driveStatus =>
    refine southDiscipline_receiveSouth _ h fun tr u => ?_
    rw [takeDriveStatusFrom_frame]
    exact ⟨rfl, rfl⟩
  | answer =>
    refine southDiscipline_receiveSouth _ h fun tr u => ?_
    rw [takeAnswer_frame]
    exact ⟨rfl, rfl⟩
  | replyWindowExpiry receiving => exact southDiscipline_windowExpiry receiving h
  | localConversionComplete sample =>
    rcases conversionStep_cases sample s with ⟨_, _, _, e⟩ | ⟨_, e⟩ <;> simp only [effect, e]
    · rw [takeReading_frame]
      exact h.congr rfl rfl rfl
    · exact h
  | cycleTimerExpiry =>
    simp only [effect]
    rw [timerExpiry_frame]
    exact h.congr rfl rfl rfl
  | cycleClose =>
    simp only [effect]
    split
    · exact southDiscipline_closeCycle h
    · exact h
  | fanDrive => exact southDiscipline_fanDriveStep h
  | relayTransaction =>
    rcases relayStep_cases s with ⟨_, entry, _, e⟩ | ⟨_, e⟩ <;> simp only [effect, e]
    · exact southDiscipline_openTransaction _ _ _ _
    · exact h
  | scanTransaction =>
    rcases scanStep_cases s with ⟨_, i, _, e⟩ | ⟨_, e⟩ <;> simp only [effect, e]
    · exact southDiscipline_openTransaction _ _ _ _
    · exact h
  | southRateChange =>
    rcases southRateStep_cases s with ⟨_, _, _, e⟩ | ⟨_, e⟩ <;> simp only [effect, e]
    · exact h.congr rfl rfl rfl
    · exact h
  | northChoice =>
    simp only [effect]
    rw [northChoiceStep_frame]
    exact h.congr rfl rfl rfl
  | northTransmissionEnd receiving =>
    rcases northSent_cases receiving s with ⟨tel, mark, _, e⟩ | ⟨_, e⟩ <;> simp only [effect, e]
    · cases mark with
      | plain => exact h.congr rfl rfl rfl
      | restartDone => exact h.congr rfl rfl rfl
      | endsOldRate =>
        simp only [markEffect, endOldRate]
        repeat' split
        all_goals exact h.congr rfl rfl rfl
    · exact h
  | activationCheckEnd => exact southDiscipline_checkEndStep h
  | purgeTimerExpiry =>
    rcases purgeTimerStep_cases s with ⟨_, _, e⟩ | e <;> simp only [effect, e]
    · rw [purgeExpiry_frame]
      exact h.congr rfl rfl rfl
    · exact h
  | supervisorSilenceExpiry =>
    rcases silenceExpiry_cases s with ⟨_, _, e⟩ | ⟨_, e⟩ <;> simp only [effect, e]
    · exact h.congr (by simp) (by simp) (by simp)
    · exact h
  | tachPulse | pwmPeriodEnd => exact h.congr rfl rfl rfl
  | lineIdle line => exact southDiscipline_idleStep line h
  | telegramAbandoned line cause =>
    rcases abandonStep_cases line cause s with ⟨_, e⟩ | ⟨_, e⟩ <;> simp only [effect, e]
    · exact southDiscipline_endReception line h
    · exact h
  | discardedTelegram line chars =>
    rcases discardStep_cases line chars s with ⟨_, _, e⟩ | ⟨_, e⟩ <;> simp only [effect, e]
    · exact southDiscipline_endReception line h
    · exact h
  | southTransmissionEnd => exact southDiscipline_southSent h

/-- Settles O15, by the case split over the commands in `effect_keeps_southDiscipline`. -/
theorem stepKeepsSouthDiscipline : Obligations.StepKeepsSouthDiscipline :=
  step_keeps (fun _ _ h => h.congr rfl rfl rfl) fun c _ _ h => effect_keeps_southDiscipline c h

end Sys2Proof.Machine
end

section
/-! The discipline of the north link (R2, R127, R191), kept by every command. Settles
StepKeepsNorthDiscipline. -/

namespace Sys2Proof.Machine

/-! ### Marked RESPONSEs -/

/-- How many RESPONSEs of a queue carry a mark. -/
def marked (m : ReplyMark) (q : List Response) : Nat := (q.filter fun r => r.mark == m).length

theorem markCount_eq (s : State) (m : ReplyMark) :
    s.markCount m = marked m s.north.built + if s.lines.northTx.hasMark m then 1 else 0 := rfl

@[simp] theorem marked_nil (m : ReplyMark) : marked m [] = 0 := rfl

theorem marked_append (m : ReplyMark) (p q : List Response) :
    marked m (p ++ q) = marked m p + marked m q := by
  simp [marked]

theorem marked_cons (m : ReplyMark) (r : Response) (q : List Response) :
    marked m (r :: q) = marked m q + if r.mark = m then 1 else 0 := by
  by_cases h : r.mark = m <;> simp [marked, h]

/-- A RESPONSE with another mark is not counted. -/
theorem marked_append_other {m : ReplyMark} {r : Response} (h : r.mark ≠ m) (q : List Response) :
    marked m (q ++ [r]) = marked m q := by
  simp [marked_append, marked_cons, h]

/-- R2: with the marks of an earlier ACTIVATE taken off, none ends the old rate and the others stand. -/
theorem marked_withoutRate (m : ReplyMark) (hm : m ≠ .plain) (q : List Response) :
    marked m (q.map fun r => { r with mark := r.mark.withoutRate }) =
      if m = .endsOldRate then 0 else marked m q := by
  induction q with
  | nil => simp
  | cons r q ih =>
    rw [List.map_cons, marked_cons, marked_cons, ih]
    cases m <;> cases e : r.mark <;> simp_all [ReplyMark.withoutRate]

theorem hasMark_withoutRate (m : ReplyMark) (hm : m ≠ .plain) (tx : NorthTx) :
    tx.withoutRate.hasMark m = (if m = .endsOldRate then false else tx.hasMark m) := by
  cases tx with
  | settling => simp [NorthTx.withoutRate, NorthTx.hasMark]
  | ready => simp [NorthTx.withoutRate, NorthTx.hasMark]
  | sending t mark =>
    cases m <;> cases mark <;> simp_all [NorthTx.withoutRate, NorthTx.hasMark, ReplyMark.withoutRate]

/-! ### Operations that add no marked RESPONSE -/

/-- The lines, the marked RESPONSEs and the restart's marks stand. -/
structure SameMarks (s t : State) : Prop where
  lines : t.lines = s.lines
  marks : ∀ m, m ≠ .plain → marked m t.north.built = marked m s.north.built
  pending : t.banks.restartPending = s.banks.restartPending
  due : t.banks.warmResetDue = s.banks.warmResetDue

theorem SameMarks.refl (s : State) : SameMarks s s := ⟨rfl, fun _ _ => rfl, rfl, rfl⟩

theorem SameMarks.trans {s t u : State} (h : SameMarks s t) (k : SameMarks t u) : SameMarks s u :=
  ⟨k.lines.trans h.lines, fun m hm => (k.marks m hm).trans (h.marks m hm), k.pending.trans h.pending,
    k.due.trans h.due⟩

/-- A part that leaves the lines, the built RESPONSEs and the Bank Manager's marks adds no mark. -/
theorem SameMarks.of_eq {s t : State} (lines : t.lines = s.lines) (built : t.north.built = s.north.built)
    (pending : t.banks.restartPending = s.banks.restartPending)
    (due : t.banks.warmResetDue = s.banks.warmResetDue) : SameMarks s t :=
  ⟨lines, fun _ _ => by rw [built], pending, due⟩

theorem State.NorthDiscipline.of_sameMarks {s t : State} (h : s.NorthDiscipline) (k : SameMarks s t) :
    t.NorthDiscipline where
  oldRate := by rw [markCount_eq, k.marks _ (by simp), k.lines, ← markCount_eq]; exact h.oldRate
  reception := by rw [k.lines]; exact h.reception
  hold := by rw [k.lines]; exact h.hold
  restart := by
    rw [markCount_eq, k.marks _ (by simp), k.lines, k.pending, k.due, ← markCount_eq]; exact h.restart
  due := by rw [k.pending, k.due]; exact h.due

/-- A part that leaves the north link and the Bank Manager keeps the discipline. -/
theorem State.NorthDiscipline.congr {s t : State} (h : s.NorthDiscipline)
    (tx : t.lines.northTx = s.lines.northTx) (rx : t.lines.northRx = s.lines.northRx)
    (pending : t.lines.northPending = s.lines.northPending) (hold : t.lines.northHold = s.lines.northHold)
    (built : t.north.built = s.north.built) (banks : t.banks = s.banks) : t.NorthDiscipline where
  oldRate := by rw [markCount_eq, built, tx, pending, ← markCount_eq]; exact h.oldRate
  reception := by rw [pending, hold]; exact h.reception
  hold := by rw [hold, rx]; exact h.hold
  restart := by rw [markCount_eq, built, tx, banks, ← markCount_eq]; exact h.restart
  due := by rw [banks]; exact h.due

/-- R162: a plain RESPONSE adds no mark. -/
theorem sameMarks_respond (source echo : Byte) (result : ResultCode) (payload : List Byte) (s : State) :
    SameMarks s (respond source echo result payload s) :=
  ⟨rfl, fun _ hm => marked_append_other (Ne.symm hm) _, rfl, rfl⟩

/-- A plain RESPONSE after other work that adds no mark. -/
theorem SameMarks.responds {s t : State} (h : SameMarks s t) (source echo : Byte) (result : ResultCode)
    (payload : List Byte) : SameMarks s (respond source echo result payload t) :=
  h.trans (sameMarks_respond source echo result payload t)

/-- A plain RESPONSE built in a part that leaves the lines, the built RESPONSEs and the marks. -/
theorem sameMarks_respond_of_eq {s t : State} {source echo : Byte} {result : ResultCode}
    {payload : List Byte} (lines : t.lines = s.lines) (built : t.north.built = s.north.built)
    (pending : t.banks.restartPending = s.banks.restartPending)
    (due : t.banks.warmResetDue = s.banks.warmResetDue) :
    SameMarks s (respond source echo result payload t) :=
  (SameMarks.of_eq lines built pending due).responds _ _ _ _

/-! ### Requests -/

theorem sameMarks_serveTableWrite (fields : List Byte) (s : State) :
    SameMarks s (serveTableWrite fields s) := by
  have write : ∀ a bytes, SameMarks s { s with banks := writeStandby a bytes s.banks } := fun a bytes => by
    unfold writeStandby
    split <;> exact .of_eq rfl rfl rfl rfl
  simp only [serveTableWrite]
  repeat' split
  case h_2.isFalse.isFalse => exact (write _ _).responds _ _ _ _
  all_goals exact sameMarks_respond _ _ _ _ _

theorem sameMarks_serveTableRead (fields : List Byte) (s : State) :
    SameMarks s (serveTableRead fields s) := by
  simp only [serveTableRead]
  repeat' split
  all_goals exact sameMarks_respond _ _ _ _ _

theorem sameMarks_serveActivate (fields : List Byte) (s : State) :
    SameMarks s (serveActivate fields s) := by
  unfold serveActivate
  repeat' split
  · exact sameMarks_respond _ _ _ _ _
  · exact .of_eq rfl rfl rfl rfl
  · exact sameMarks_respond _ _ _ _ _

theorem sameMarks_serveAcknowledge (fields : List Byte) (s : State) :
    SameMarks s (serveAcknowledge fields s) := by
  have acknowledged : ∀ sel, SameMarks s (evalRelays (acknowledgeSources sel s)) := fun sel => by
    apply SameMarks.of_eq <;> simp
  unfold serveAcknowledge
  repeat' split
  · exact (acknowledged _).responds _ _ _ _
  · exact sameMarks_respond _ _ _ _ _
  · exact sameMarks_respond _ _ _ _ _

theorem sameMarks_serveReaders (fields : List Byte) (s : State) :
    SameMarks s (serveStatus fields s) ∧ SameMarks s (serveReadChannels fields s) ∧
      SameMarks s (serveReadZone fields s) ∧ SameMarks s (serveReadFan fields s) := by
  refine ⟨?_, ?_, ?_, ?_⟩
  · unfold serveStatus
    split <;> exact sameMarks_respond _ _ _ _ _
  · unfold serveReadChannels
    repeat' split
    all_goals exact sameMarks_respond _ _ _ _ _
  · unfold serveReadZone
    repeat' split
    all_goals exact sameMarks_respond _ _ _ _ _
  · unfold serveReadFan
    repeat' split
    all_goals exact sameMarks_respond _ _ _ _ _

theorem sameMarks_abortActivation (s : State) : SameMarks s (abortActivation s) := by
  unfold abortActivation
  split
  · exact .refl s
  · exact sameMarks_respond_of_eq rfl rfl rfl rfl

/-- R189, R191: the RESTART that sets the mark is the one whose DONE is marked. -/
theorem northDiscipline_serveRestart (fields : List Byte) {s : State} (h : s.NorthDiscipline) :
    (serveRestart fields s).NorthDiscipline := by
  unfold serveRestart
  split
  · have aborted := sameMarks_abortActivation s
    have h' := h.of_sameMarks aborted
    cases restarting : s.banks.restartPending
    · have settled : s.banks.warmResetDue = false := by
        by_contra due
        rw [h.due (by simpa using due)] at restarting
        cases restarting
      exact {
        oldRate := by
          rw [markCount_eq]
          simp only [buildResponse, Bool.false_eq_true, if_false]
          rw [marked_append_other (by simp), ← markCount_eq]
          exact h'.oldRate
        reception := h'.reception
        hold := h'.hold
        restart := by
          have count := h'.restart
          rw [aborted.pending, aborted.due, restarting, markCount_eq] at count
          rw [markCount_eq]
          simp only [buildResponse, Bool.false_eq_true, if_false, marked_append, marked_cons, marked_nil,
            if_true, aborted.due, settled]
          simp only [Bool.false_eq_true, false_and, if_false] at count
          simp only [true_and, if_true]
          omega
        due := fun _ => rfl }
    · refine h.of_sameMarks (aborted.trans ⟨rfl, fun m hm => ?_, ?_, rfl⟩)
      · exact marked_append_other (by simpa using Ne.symm hm) _
      · rw [aborted.pending, restarting]; rfl
  · exact h.of_sameMarks (sameMarks_respond _ _ _ _ _)

theorem northDiscipline_serveRequest (payload : List Byte) {s : State} (h : s.NorthDiscipline) :
    (serveRequest payload s).NorthDiscipline := by
  unfold serveRequest
  repeat' split
  · exact h
  · exact h.of_sameMarks (sameMarks_serveTableWrite _ s)
  · exact h.of_sameMarks (sameMarks_serveTableRead _ s)
  · exact h.of_sameMarks (sameMarks_serveActivate _ s)
  · exact h.of_sameMarks (sameMarks_serveAcknowledge _ s)
  · exact h.of_sameMarks (sameMarks_serveReaders _ s).1
  · exact h.of_sameMarks (sameMarks_serveReaders _ s).2.1
  · exact h.of_sameMarks (sameMarks_serveReaders _ s).2.2.1
  · exact h.of_sameMarks (sameMarks_serveReaders _ s).2.2.2
  · exact northDiscipline_serveRestart _ h
  · exact h.of_sameMarks (sameMarks_respond _ _ _ _ s)

/-! ### Arrivals -/

theorem sameMarks_screenCandidate (node : Byte) (kind : RelayKind) (payload : List Byte) (s : State) :
    SameMarks s (screenCandidate node kind payload s) := by
  unfold screenCandidate
  split
  · exact sameMarks_respond _ _ _ _ _
  · exact sameMarks_respond_of_eq rfl rfl rfl rfl
  · exact .of_eq rfl rfl rfl rfl

theorem sameMarks_dispatchNode (t : Telegram) (s : State) : SameMarks s (dispatchNode t s) := by
  unfold dispatchNode takeDriveSet
  repeat' split
  · exact sameMarks_respond _ _ _ _ _
  · exact sameMarks_respond_of_eq rfl rfl rfl rfl
  · exact sameMarks_respond _ _ _ _ _
  · exact sameMarks_screenCandidate _ _ _ _
  · exact sameMarks_screenCandidate _ _ _ _
  · exact sameMarks_respond _ _ _ _ _

/-- R2: the end of a reception ends the hold with the rate that waited for it. -/
theorem northDiscipline_ended {s t : State} (h : s.NorthDiscipline)
    (lines : t.lines = northReceptionEnded s.lines) (built : t.north.built = s.north.built)
    (banks : t.banks = s.banks) : t.NorthDiscipline where
  oldRate := by
    have count := h.oldRate
    rw [markCount_eq] at count ⊢
    rw [built, lines]
    cases e : s.lines.northPending <;> simpa [northReceptionEnded, e] using count
  reception := by
    intro r waits
    rw [lines] at waits
    cases e : s.lines.northPending <;> simp [northReceptionEnded, e] at waits
  hold := by rw [lines]; simp [northReceptionEnded]
  restart := by
    have count := h.restart
    rw [markCount_eq] at count ⊢
    rw [built, lines, banks]
    exact count
  due := by rw [banks]; exact h.due

theorem northDiscipline_endReception (line : Line) {s : State} (h : s.NorthDiscipline) :
    (endReception line s).NorthDiscipline := by
  cases line
  · exact { h with }
  · rw [endReception_north]
    exact northDiscipline_ended h rfl rfl rfl

theorem northDiscipline_receiveNorth (t : Telegram) {s : State} (h : s.NorthDiscipline) :
    (receiveNorth t s).NorthDiscipline := by
  have arrived : s.afterArrival.NorthDiscipline := by
    rw [afterArrival_frame]
    exact northDiscipline_ended h rfl rfl rfl
  have reserved : (reserveReply s.afterArrival).NorthDiscipline :=
    arrived.of_sameMarks (.of_eq rfl rfl rfl rfl)
  rcases receiveNorth_cases t s with ⟨_, e⟩ | ⟨_, _, e⟩ | ⟨_, _, _, ⟨_, e⟩ | ⟨_, _, e⟩ | ⟨_, _, e⟩⟩ <;>
    rw [e]
  · exact h
  · exact northDiscipline_ended h rfl rfl rfl
  · exact arrived
  · unfold dispatchOwn
    split
    · exact northDiscipline_serveRequest _ reserved
    · exact reserved.of_sameMarks (sameMarks_respond _ _ _ _ _)
  · exact reserved.of_sameMarks (sameMarks_dispatchNode t _)

/-! ### The transmitter -/

/-- R145, R155: a class that is served sends its item plainly, or sends the oldest RESPONSE with its mark. -/
theorem serveClass_marks (c : NorthClass) (s : State) :
    ((serveClass c s).north.built = s.north.built ∧
      ((serveClass c s).lines.northTx = s.lines.northTx ∨
        ∃ tel, (serveClass c s).lines.northTx = .sending tel .plain)) ∨
    ∃ r rest, s.north.built = r :: rest ∧ (serveClass c s).north.built = rest ∧
      ∃ tel, (serveClass c s).lines.northTx = .sending tel r.mark := by
  cases c with
  | alert =>
    simp only [serveClass, sendAlert]
    split
    · exact .inl ⟨rfl, .inl rfl⟩
    · exact .inl ⟨rfl, .inr ⟨_, rfl⟩⟩
  | response =>
    simp only [serveClass, sendResponse]
    split
    · exact .inl ⟨rfl, .inl rfl⟩
    · exact .inr ⟨_, _, ‹_›, rfl, _, rfl⟩
  | report =>
    simp only [serveClass, sendReport]
    split
    · exact .inl ⟨rfl, .inl rfl⟩
    · exact .inl ⟨rfl, .inr ⟨_, rfl⟩⟩

/-- R155: an item that is handed to the free transmitter takes its mark along. -/
theorem northDiscipline_northChoiceStep {s : State} (h : s.NorthDiscipline) :
    (northChoiceStep s).NorthDiscipline := by
  rcases northChoiceStep_cases s with ⟨free, c, _, e⟩ | ⟨_, e⟩
  · have ready : s.lines.northTx = .ready := by
      simp only [northFree, Bool.and_eq_true, beq_iff_eq] at free
      exact free.1
    have count : ∀ m, m ≠ .plain → (serveClass c (updateCredits c s)).markCount m = s.markCount m := by
      intro m hm
      have tx : (updateCredits c s).lines.northTx = .ready := ready
      have built : (updateCredits c s).north.built = s.north.built := rfl
      rw [markCount_eq, markCount_eq, ready]
      rcases serveClass_marks c (updateCredits c s) with
        ⟨same, e | ⟨tel, e⟩⟩ | ⟨r, rest, oldest, left, tel, e⟩
      · rw [same, e, tx, built]
      · simp [same, e, built, NorthTx.hasMark, Ne.symm hm]
      · rw [left, e, ← built, oldest, marked_cons]
        simp [NorthTx.hasMark]
    rw [e]
    have frame := serveClass_frame c (updateCredits c s)
    have lines : (serveClass c (updateCredits c s)).lines =
        { s.lines with northTx := (serveClass c (updateCredits c s)).lines.northTx } := by
      rw [frame]; rfl
    have banks : (serveClass c (updateCredits c s)).banks = s.banks := by rw [frame]; rfl
    exact {
      oldRate := by rw [count _ (by simp), lines]; exact h.oldRate
      reception := by rw [lines]; exact h.reception
      hold := by rw [lines]; exact h.hold
      restart := by rw [count _ (by simp), banks]; exact h.restart
      due := by rw [banks]; exact h.due }
  · rw [e]; exact h

/-- A receiver that is taking in a telegram goes on with it. -/
theorem noted_receiving (receiving : Bool) : RxState.receiving.noted receiving = .receiving := by
  simp [RxState.noted]

/-- R2, R189: the end of a marked RESPONSE's transmission brings what its mark stands for. -/
theorem northDiscipline_northSent (receiving : Bool) {s : State} (h : s.NorthDiscipline) :
    (northSent receiving s).NorthDiscipline := by
  rcases northSent_cases receiving s with ⟨tel, mark, sending, e⟩ | ⟨_, e⟩ <;> rw [e]
  · have hold : s.lines.northHold = true → s.lines.northRx.noted receiving = .receiving := fun held => by
      rw [h.hold held, noted_receiving]
    have sent : ∀ m, s.markCount m = marked m s.north.built + if mark = m then 1 else 0 := fun m => by
      simp [markCount_eq, sending, NorthTx.hasMark]
    have oldRate := h.oldRate
    have restart := h.restart
    rw [sent] at oldRate restart
    have settled : ∀ m, marked m s.north.built + (if NorthTx.settling.hasMark m then 1 else 0) =
        marked m s.north.built := fun m => by simp [NorthTx.hasMark]
    cases mark with
    | plain =>
      simp only [reduceCtorEq, if_false, Nat.add_zero] at oldRate restart
      exact ⟨(settled _).trans oldRate, h.reception, hold, (settled _).trans restart, h.due⟩
    | endsOldRate =>
      obtain ⟨r, pending⟩ : ∃ r, s.lines.northPending = .awaitingResponse r := by
        cases p : s.lines.northPending <;> simp [p] at oldRate ⊢
      simp only [pending, if_true, Nat.add_eq_right] at oldRate
      simp only [reduceCtorEq, if_false, Nat.add_zero] at restart
      simp only [markEffect, endOldRate, pending]
      split
      · next rx =>
        exact ⟨(settled _).trans oldRate, fun _ _ => rfl, fun _ => rx, (settled _).trans restart, h.due⟩
      · exact ⟨(settled _).trans oldRate, by simp, hold, (settled _).trans restart, h.due⟩
    | restartDone =>
      obtain ⟨pending, none_⟩ : s.banks.restartPending = true ∧ marked .restartDone s.north.built = 0 := by
        by_cases c : s.banks.restartPending = true ∧ s.banks.warmResetDue = false
        · exact ⟨c.1, by simpa [c] using restart⟩
        · simp [c] at restart
      refine ⟨?_, h.reception, hold, ?_, fun _ => pending⟩
      · simpa [markEffect, markCount_eq, NorthTx.hasMark] using oldRate
      · simpa [markEffect, markCount_eq, NorthTx.hasMark] using none_
  · exact h

/-- R156: idle on the transmit direction readies a settling transmitter; on the receive direction it arms a
receiver or ends its reception. -/
theorem northDiscipline_idleStep (line : IdleLine) {s : State} (h : s.NorthDiscipline) :
    (idleStep line s).NorthDiscipline := by
  cases line with
  | south receiving =>
    simp only [idleStep, southIdle, receiverIdle]
    repeat' split
    · exact h
    · exact { h with }
    · exact h
    · exact northDiscipline_endReception .south h
  | northReceive receiving =>
    simp only [idleStep, northReceiveIdle, receiverIdle, beginReception_eq_noted, Lines.rx]
    split
    · next hunt =>
      refine ⟨h.oldRate, h.reception, fun held => ?_, h.restart, h.due⟩
      rw [h.hold held, noted_receiving] at hunt
      cases hunt
    · exact h
    · exact northDiscipline_endReception .north h
  | northTransmit =>
    simp only [idleStep, northTransmitIdle]
    split
    · next settling =>
      have count : ∀ m, State.markCount { s with lines := { s.lines with northTx := .ready } } m =
          s.markCount m := fun m => by
        simp [markCount_eq, settling, NorthTx.hasMark]
      refine ⟨?_, h.reception, h.hold, ?_, h.due⟩
      · rw [count]; exact h.oldRate
      · rw [count]; exact h.restart
    · exact h

/-! ### Swaps and resets -/

/-- R2: the DONE of a swap that changes the north rate is the one that the rate waits for. -/
theorem northDiscipline_finishSwap {s : State} (h : s.NorthDiscipline) : (finishSwap s).NorthDiscipline := by
  have lines := finishSwap_lines_frame s
  have banks : (finishSwap s).banks.restartPending = s.banks.restartPending ∧
      (finishSwap s).banks.warmResetDue = s.banks.warmResetDue := ⟨rfl, rfl⟩
  have hold : (finishSwap s).lines.northHold = true → (finishSwap s).lines.northRx = .receiving := by
    rw [lines]; exact h.hold
  have restartDone : (finishSwap s).markCount .restartDone = s.markCount .restartDone := by
    rw [markCount_eq, markCount_eq, finishSwap_north, lines]
    cases northRateChanges s.site.north s.lines <;>
      simp [marked_append, marked_cons, marked_withoutRate, hasMark_withoutRate]
  refine ⟨?_, ?_, hold, by rw [restartDone, banks.1, banks.2]; exact h.restart, h.due⟩
  · rw [markCount_eq, finishSwap_north, lines]
    cases changes : northRateChanges s.site.north s.lines
    · have count := h.oldRate
      rw [markCount_eq] at count
      simpa [marked_append, marked_cons] using count
    · simp [marked_append, marked_cons, marked_withoutRate, hasMark_withoutRate]
  · rw [lines]
    cases changes : northRateChanges s.site.north s.lines
    · exact h.reception
    · simp

theorem northDiscipline_swapAtClose {s : State} (h : s.NorthDiscipline) : (swapAtClose s).NorthDiscipline := by
  have ready : (exchangeBanks (reinitialise s.tables s.banks.standbyBank s)).NorthDiscipline :=
    h.of_sameMarks (by apply SameMarks.of_eq <;> simp)
  exact (northDiscipline_finishSwap ready).of_sameMarks
    (by apply SameMarks.of_eq <;> simp [swapAtClose])

theorem northDiscipline_closeCycle {s : State} (h : s.NorthDiscipline) : (closeCycle s).NorthDiscipline := by
  have work : (closeWork s).NorthDiscipline := by
    rw [closeWork_frame]
    exact h.of_sameMarks (.of_eq rfl rfl rfl rfl)
  have swap : (closeSwap (closeWork s)).NorthDiscipline := by
    rcases closeSwap_cases (closeWork s) with ⟨_, e⟩ | ⟨_, e⟩ <;> rw [e]
    · exact northDiscipline_swapAtClose work
    · exact work
  have purge : (closePurge (closeSwap (closeWork s))).NorthDiscipline := by
    rcases closePurge_cases (closeSwap (closeWork s)) with ⟨_, _, e⟩ | ⟨_, e⟩ <;> rw [e]
    · rw [purgeExpiry_frame]
      exact swap.of_sameMarks (.of_eq rfl rfl rfl rfl)
    · exact swap
  simp only [closeCycle]
  split
  · exact purge.of_sameMarks (.of_eq rfl rfl rfl rfl)
  · exact purge

theorem northDiscipline_checkEndStep {s : State} (h : s.NorthDiscipline) :
    (checkEndStep s).NorthDiscipline := by
  have failed : ∀ result payload, (failActivation result payload s).NorthDiscipline := fun _ _ =>
    h.of_sameMarks (sameMarks_respond_of_eq rfl rfl rfl rfl)
  unfold checkEndStep checkEnd
  repeat' split
  · exact failed _ _
  · exact failed _ _
  · have ready : (exchangeBanks (reinitialiseAll s)).NorthDiscipline :=
      h.of_sameMarks (.of_eq rfl rfl rfl rfl)
    exact (northDiscipline_finishSwap ready).of_sameMarks 
      (by apply SameMarks.of_eq <;> simp [firstActivation, enterPurge])
  · exact h.of_sameMarks (.of_eq rfl rfl rfl rfl)
  · exact h

/-- R127, R173: after a reset no RESPONSE waits and no restart is pending. -/
theorem northDiscipline_of_empty {s : State} (built : s.north.built = [])
    (tx : s.lines.northTx = .settling) (pending : s.lines.northPending = .none)
    (hold : s.lines.northHold = false) (restart : s.banks.restartPending = false)
    (due : s.banks.warmResetDue = false) : s.NorthDiscipline where
  oldRate := by simp [markCount_eq, built, tx, pending, NorthTx.hasMark]
  reception := by simp [pending]
  hold := by simp [hold]
  restart := by simp [markCount_eq, built, tx, restart, NorthTx.hasMark]
  due := by simp [due]

theorem northDiscipline_warmReset (s : State) : (warmReset s).NorthDiscipline := by
  have lines : (warmReset s).lines = _ := (warmReset_lines s).trans (warmLines_eq s.banks)
  refine northDiscipline_of_empty ?_ (by rw [lines]; rfl) (by rw [lines]; rfl) (by rw [lines]; rfl) ?_ ?_ <;>
  · simp only [warmReset]
    split <;> simp [enterPurge, warmBlocks, State.reset, NorthLink.initial]

theorem northDiscipline_releaseHold (release : Release) {s : State} (h : s.NorthDiscipline) :
    (releaseHold release s).NorthDiscipline := by
  rcases releaseHold_cases release s with ⟨_, e⟩ | ⟨_, _, e⟩ | ⟨_, _, e⟩ <;> rw [e]
  · exact h
  · exact { h with }
  · exact northDiscipline_of_empty rfl rfl rfl rfl rfl rfl

/-! ### South commands -/

/-- R172: the miss of a window answers a confirmed relay plainly. -/
theorem sameMarks_deliverMiss (tr : Transaction) (s : State) : SameMarks s (deliverMiss tr s) := by
  unfold deliverMiss
  repeat' split
  · rw [takeChannelMiss_frame]; exact .of_eq rfl rfl rfl rfl
  · exact .refl s
  · rw [takeFanMiss_frame]; exact .of_eq rfl rfl rfl rfl
  · exact .refl s
  · rw [takeFanMiss_frame]; exact .of_eq rfl rfl rfl rfl
  · exact .refl s
  · exact .refl s
  · exact sameMarks_respond _ _ _ _ _

theorem sameMarks_takeAnswer (tr : Transaction) (payload : List Byte) (s : State) :
    SameMarks s (takeAnswer tr payload s) := by
  unfold takeAnswer
  split
  · exact sameMarks_respond _ _ _ _ _
  · exact .refl s

theorem northDiscipline_receiveSouth (t : Telegram) {take : Transaction → State → State} {s : State}
    (h : s.NorthDiscipline) (leaves : ∀ tr u, SameMarks u (take tr u)) :
    (receiveSouth t take s).NorthDiscipline := by
  rcases receiveSouth_cases t take s with ⟨_, e⟩ | ⟨_, _, tr, _, _, e⟩ | ⟨_, _, e⟩ <;> rw [e]
  · exact h
  · exact State.NorthDiscipline.of_sameMarks (s := s.afterReply) { h with } (leaves tr _)
  · exact { h with }

/-! ### All commands -/

theorem effect_keeps_northDiscipline (c : Instr) {s : State} (h : s.NorthDiscipline) :
    (effect c s).NorthDiscipline := by
  cases c with
  | coldReset r => exact northDiscipline_releaseHold r h
  | resetHold k =>
    simp only [effect]
    split
    · exact northDiscipline_of_empty rfl rfl rfl rfl rfl rfl
    · exact h
  | warmReset =>
    simp only [effect]
    split
    · exact northDiscipline_warmReset s
    · exact h
  | tableWrite | tableRead | activate | acknowledge | status | readChannels | readZone | readFan | restart
  | driveSet | command | dispatchBadRequest | unknownRequest => exact northDiscipline_receiveNorth _ h
  | reading =>
    refine northDiscipline_receiveSouth _ h fun tr u => ?_
    rw [takeReadingFrom_frame]
    exact .of_eq rfl rfl rfl rfl
  | driveStatus =>
    refine northDiscipline_receiveSouth _ h fun tr u => ?_
    rw [takeDriveStatusFrom_frame]
    exact .of_eq rfl rfl rfl rfl
  | answer => exact northDiscipline_receiveSouth _ h fun tr u => sameMarks_takeAnswer tr _ u
  | replyWindowExpiry receiving =>
    rcases windowExpiry_cases receiving s with ⟨tr, _, _, e⟩ | ⟨_, e⟩ <;> simp only [effect, e]
    · refine State.NorthDiscipline.of_sameMarks ?_ (sameMarks_deliverMiss tr _)
      exact { h with }
    · exact h
  | localConversionComplete sample =>
    rcases conversionStep_cases sample s with ⟨_, _, _, e⟩ | ⟨_, e⟩ <;> simp only [effect, e]
    · rw [takeReading_frame]
      exact h.of_sameMarks (.of_eq rfl rfl rfl rfl)
    · exact h
  | cycleTimerExpiry =>
    simp only [effect]
    rw [timerExpiry_frame]
    exact h.of_sameMarks (.of_eq rfl rfl rfl rfl)
  | cycleClose =>
    simp only [effect]
    split
    · exact northDiscipline_closeCycle h
    · exact h
  | fanDrive =>
    rcases fanDriveStep_cases s with ⟨_, f, _, e⟩ | ⟨_, _, e⟩ | ⟨_, e⟩ <;> simp only [effect, e]
    · apply h.congr <;> simp [openFanDrive]
    · exact h.congr rfl rfl rfl rfl rfl rfl
    · exact h
  | relayTransaction =>
    rcases relayStep_cases s with ⟨_, entry, _, e⟩ | ⟨_, e⟩ <;> simp only [effect, e]
    · apply h.congr <;> simp [openRelay]
    · exact h
  | scanTransaction =>
    rcases scanStep_cases s with ⟨_, i, _, e⟩ | ⟨_, e⟩ <;> simp only [effect, e]
    · apply h.congr <;> simp [openScan]
    · exact h
  | southRateChange =>
    rcases southRateStep_cases s with ⟨_, _, _, e⟩ | ⟨_, e⟩ <;> simp only [effect, e]
    · exact { h with }
    · exact h
  | northChoice => exact northDiscipline_northChoiceStep h
  | northTransmissionEnd receiving => exact northDiscipline_northSent receiving h
  | activationCheckEnd => exact northDiscipline_checkEndStep h
  | purgeTimerExpiry =>
    rcases purgeTimerStep_cases s with ⟨_, _, e⟩ | e <;> simp only [effect, e]
    · rw [purgeExpiry_frame]
      exact h.of_sameMarks (.of_eq rfl rfl rfl rfl)
    · exact h
  | supervisorSilenceExpiry =>
    rcases silenceExpiry_cases s with ⟨_, _, e⟩ | ⟨_, e⟩ <;> simp only [effect, e]
    · exact h.of_sameMarks (by apply SameMarks.of_eq <;> simp)
    · exact h
  | tachPulse | pwmPeriodEnd => exact { h with }
  | lineIdle line => exact northDiscipline_idleStep line h
  | telegramAbandoned line cause =>
    rcases abandonStep_cases line cause s with ⟨_, e⟩ | ⟨_, e⟩ <;> simp only [effect, e]
    · exact northDiscipline_endReception line h
    · exact h
  | discardedTelegram line chars =>
    rcases discardStep_cases line chars s with ⟨_, _, e⟩ | ⟨_, e⟩ <;> simp only [effect, e]
    · exact northDiscipline_endReception line h
    · exact h
  | southTransmissionEnd =>
    rcases southSent_cases s with ⟨_, e⟩ | ⟨_, e⟩ <;> simp only [effect, e]
    · exact { h with }
    · exact h

/-- Settles O16, by the case split over the commands in `effect_keeps_northDiscipline`. -/
theorem stepKeepsNorthDiscipline : Obligations.StepKeepsNorthDiscipline :=
  step_keeps (fun _ _ h => { h with }) fun c _ _ h => effect_keeps_northDiscipline c h

end Sys2Proof.Machine
end

section
/-! The standstill of an UNCONFIGURED part (R22, R120), kept by every command. Settles
StepKeepsUnconfiguredStands. -/

namespace Sys2Proof.Machine

/-! ### What keeps the standstill -/

/-- A bank is active and the device is in PURGE or RUN. -/
structure State.Configured (s : State) : Prop where
  device : s.control.device ≠ .unconfigured
  active : s.banks.active ≠ none

/-- The invariant says nothing more of a configured part. -/
theorem State.Configured.stands {s : State} (h : s.Configured) : s.UnconfiguredStands where
  scan c := absurd c h.device
  converter c := absurd c h.device
  relays c := absurd c h.device
  silence c := absurd c h.device
  outputs c := absurd c h.device
  rates c := absurd c h.device
  bank := ⟨fun c => absurd c h.device, fun c => absurd c h.active⟩
  secondBank c := absurd c h.active
  swap c := absurd c h.active
  overrun c := absurd c h.device

theorem State.UnconfiguredStands.configured {s : State} (h : s.UnconfiguredStands)
    (device : s.control.device ≠ .unconfigured) : s.Configured :=
  ⟨device, fun c => device (h.bank.2 c)⟩

/-- The blocks that the standstill speaks of stand as they were, and no swap comes to be pending. -/
structure SameStanding (s t : State) : Prop where
  scan : t.scan = s.scan
  converter : t.converter = s.converter
  relays : t.relayQueue = s.relayQueue
  silence : t.north.silence = s.north.silence
  lost : t.north.supervisorLost = s.north.supervisorLost
  outputs : t.pwm.outputs = s.pwm.outputs
  southRate : t.lines.southRate = s.lines.southRate
  northRate : t.lines.northRate = s.lines.northRate
  southPending : t.lines.southPending = s.lines.southPending
  northPending : t.lines.northPending = s.lines.northPending
  secondBank : t.banks.bankB = s.banks.bankB
  swap : t.banks.state = .swapPending → s.banks.state = .swapPending
  overrun : t.alarm.sources[(74 : Fin 77)].condition = s.alarm.sources[(74 : Fin 77)].condition

theorem SameStanding.refl (s : State) : SameStanding s s :=
  ⟨rfl, rfl, rfl, rfl, rfl, rfl, rfl, rfl, rfl, rfl, rfl, id, rfl⟩

theorem SameStanding.trans {s t u : State} (h : SameStanding s t) (k : SameStanding t u) :
    SameStanding s u :=
  ⟨k.scan.trans h.scan, k.converter.trans h.converter, k.relays.trans h.relays, k.silence.trans h.silence,
    k.lost.trans h.lost, k.outputs.trans h.outputs, k.southRate.trans h.southRate,
    k.northRate.trans h.northRate, k.southPending.trans h.southPending,
    k.northPending.trans h.northPending, k.secondBank.trans h.secondBank, h.swap ∘ k.swap,
    k.overrun.trans h.overrun⟩

/-- A command that leaves the device state and the active selection keeps the standstill, if it leaves the
blocks that stand in an UNCONFIGURED part. -/
theorem State.UnconfiguredStands.of_standing {s t : State} (h : s.UnconfiguredStands)
    (device : t.control.device = s.control.device) (active : t.banks.active = s.banks.active)
    (same : s.control.device = .unconfigured → SameStanding s t) : t.UnconfiguredStands := by
  by_cases d : s.control.device = .unconfigured
  · have k := same d
    exact {
      scan := fun _ => k.scan.trans (h.scan d)
      converter := fun _ => k.converter.trans (h.converter d)
      relays := fun _ => k.relays.trans (h.relays d)
      silence := fun _ => by rw [k.silence, k.lost]; exact h.silence d
      outputs := fun _ => by rw [k.outputs]; exact h.outputs d
      rates := fun _ => by rw [k.southRate, k.northRate, k.southPending, k.northPending]; exact h.rates d
      bank := by rw [device, active]; exact h.bank
      secondBank := fun _ => k.secondBank.trans (h.secondBank (h.bank.1 d))
      swap := fun _ c => h.swap (h.bank.1 d) (k.swap c)
      overrun := fun _ => k.overrun.trans (h.overrun d) }
  · exact State.Configured.stands
      ⟨by rw [device]; exact d, by rw [active]; exact (h.configured d).active⟩

/-! ### Requests and relay candidates in an UNCONFIGURED part -/

theorem sameStanding_respond (source echo : Byte) (result : ResultCode) (payload : List Byte) (s : State) :
    SameStanding s (respond source echo result payload s) :=
  ⟨rfl, rfl, rfl, rfl, rfl, rfl, rfl, rfl, rfl, rfl, rfl, id, rfl⟩

/-- The Bank Manager in a state other than SWAP_PENDING, with any marks. -/
theorem sameStanding_banks (s : State) {b : BankManager} (second : b.bankB = s.banks.bankB)
    (state : b.state ≠ .swapPending ∨ b.state = s.banks.state) : SameStanding s { s with banks := b } :=
  ⟨rfl, rfl, rfl, rfl, rfl, rfl, rfl, rfl, rfl, rfl, second,
    fun c => state.elim (fun h => absurd c h) (fun h => h ▸ c), rfl⟩

/-- R175, R178: with no bank active a TABLE WRITE goes to Bank A. -/
theorem sameStanding_serveTableWrite (fields : List Byte) {s : State} (none_ : s.banks.active = none) :
    SameStanding s (serveTableWrite fields s) := by
  have write : ∀ a bytes, SameStanding s { s with banks := writeStandby a bytes s.banks } := fun a bytes => by
    have standby : s.banks.standbyId = .a := by simp [BankManager.standbyId, none_]
    simp only [writeStandby, standby]
    exact sameStanding_banks s rfl (.inr rfl)
  simp only [serveTableWrite]
  repeat' split
  case h_2.isFalse.isFalse => exact (write _ _).trans (sameStanding_respond _ _ _ _ _)
  all_goals exact sameStanding_respond _ _ _ _ _

theorem sameStanding_serveTableRead (fields : List Byte) (s : State) :
    SameStanding s (serveTableRead fields s) := by
  simp only [serveTableRead]
  repeat' split
  all_goals exact sameStanding_respond _ _ _ _ _

theorem sameStanding_serveActivate (fields : List Byte) (s : State) :
    SameStanding s (serveActivate fields s) := by
  unfold serveActivate
  repeat' split
  · exact sameStanding_respond _ _ _ _ _
  · exact sameStanding_banks s rfl (.inl (by simp))
  · exact sameStanding_respond _ _ _ _ _

/-- R142: an acknowledgement moves sources and touches no condition. -/
theorem sameStanding_serveAcknowledge (fields : List Byte) (s : State) :
    SameStanding s (serveAcknowledge fields s) := by
  have acknowledged : ∀ sel, SameStanding s (evalRelays (acknowledgeSources sel s)) := fun sel => by
    refine ⟨?_, ?_, ?_, ?_, ?_, ?_, ?_, ?_, ?_, ?_, ?_, ?_, ?_⟩
    case refine_13 =>
      rw [evalRelays_sources, acknowledgeSources_source]
      split <;> rfl
    all_goals simp
  unfold serveAcknowledge
  repeat' split
  · exact (acknowledged _).trans (sameStanding_respond _ _ _ _ _)
  · exact sameStanding_respond _ _ _ _ _
  · exact sameStanding_respond _ _ _ _ _

theorem sameStanding_serveReaders (fields : List Byte) (s : State) :
    SameStanding s (serveStatus fields s) ∧ SameStanding s (serveReadChannels fields s) ∧
      SameStanding s (serveReadZone fields s) ∧ SameStanding s (serveReadFan fields s) := by
  refine ⟨?_, ?_, ?_, ?_⟩
  · unfold serveStatus
    split <;> exact sameStanding_respond _ _ _ _ _
  · unfold serveReadChannels
    repeat' split
    all_goals exact sameStanding_respond _ _ _ _ _
  · unfold serveReadZone
    repeat' split
    all_goals exact sameStanding_respond _ _ _ _ _
  · unfold serveReadFan
    repeat' split
    all_goals exact sameStanding_respond _ _ _ _ _

theorem sameStanding_serveRestart (fields : List Byte) (s : State) :
    SameStanding s (serveRestart fields s) := by
  have aborted : SameStanding s (abortActivation s) := by
    unfold abortActivation
    split
    · exact .refl s
    · exact (sameStanding_banks s (b := { s.banks with state := .idle }) rfl (.inl (by simp))).trans
        (sameStanding_respond _ _ _ _ _)
  unfold serveRestart
  split
  · exact aborted.trans ⟨rfl, rfl, rfl, rfl, rfl, rfl, rfl, rfl, rfl, rfl, rfl, id, rfl⟩
  · exact sameStanding_respond _ _ _ _ _

theorem sameStanding_serveRequest (payload : List Byte) {s : State} (none_ : s.banks.active = none) :
    SameStanding s (serveRequest payload s) := by
  unfold serveRequest
  repeat' split
  · exact .refl s
  · exact sameStanding_serveTableWrite _ none_
  · exact sameStanding_serveTableRead _ s
  · exact sameStanding_serveActivate _ s
  · exact sameStanding_serveAcknowledge _ s
  · exact (sameStanding_serveReaders _ s).1
  · exact (sameStanding_serveReaders _ s).2.1
  · exact (sameStanding_serveReaders _ s).2.2.1
  · exact (sameStanding_serveReaders _ s).2.2.2
  · exact sameStanding_serveRestart _ s
  · exact sameStanding_respond _ _ _ _ s

/-- R169: with no bank active every candidate is refused. -/
theorem sameStanding_dispatchNode (t : Telegram) {s : State} (d : s.control.device = .unconfigured) :
    SameStanding s (dispatchNode t s) := by
  have refused : ∀ node kind payload, SameStanding s (screenCandidate node kind payload s) :=
    fun node kind payload => by
      simp only [screenCandidate, screenVerdict, d, if_true]
      exact sameStanding_respond _ _ _ _ _
  unfold dispatchNode takeDriveSet
  repeat' split
  · exact sameStanding_respond _ _ _ _ _
  · exact ⟨rfl, rfl, rfl, rfl, rfl, rfl, rfl, rfl, rfl, rfl, rfl, id, rfl⟩
  · exact sameStanding_respond _ _ _ _ _
  · exact refused _ _ _
  · exact refused _ _ _
  · exact sameStanding_respond _ _ _ _ _

/-! ### What leaves the device state and the active selection -/

theorem serveTableWrite_active (fields : List Byte) (s : State) :
    (serveTableWrite fields s).banks.active = s.banks.active := by
  have write : ∀ a bytes, (writeStandby a bytes s.banks).active = s.banks.active := fun a bytes => by
    unfold writeStandby
    split <;> rfl
  simp only [serveTableWrite]
  repeat' split
  case h_2.isFalse.isFalse => exact write _ _
  all_goals rfl

/-- A request leaves the active selection. -/
theorem serveRequest_active (payload : List Byte) (s : State) :
    (serveRequest payload s).banks.active = s.banks.active := by
  unfold serveRequest
  repeat' split
  · rfl
  · exact serveTableWrite_active _ s
  · rw [serveTableRead_frame]
  · rw [serveActivate_frame]
  · rw [serveAcknowledge_frame]
  · rw [serveStatus_frame]
  · rw [serveReadChannels_frame]
  · rw [serveReadZone_frame]
  · rw [serveReadFan_frame]
  · rw [serveRestart_frame]
  · rfl

/-- An arrived telegram leaves the active selection. -/
theorem receiveNorth_active (t : Telegram) (s : State) :
    (receiveNorth t s).banks.active = s.banks.active := by
  have banks : (reserveReply s.afterArrival).banks = s.banks := by
    rw [reserveReply_banks, afterArrival_frame]
  rcases receiveNorth_cases t s with ⟨_, e⟩ | ⟨_, _, e⟩ | ⟨_, _, _, ⟨_, e⟩ | ⟨_, _, e⟩ | ⟨_, _, e⟩⟩ <;>
    rw [e]
  · rw [afterArrival_frame]
  · unfold dispatchOwn
    split
    · rw [serveRequest_active, banks]
    · exact congrArg BankManager.active banks
  · rw [dispatchNode_frame]
    exact congrArg BankManager.active banks

/-! ### Operation by operation -/

/-- R2: with no rate pending the end of a reception moves the receiver alone. -/
theorem northReceptionEnded_of_none {l : Lines} (h : l.northPending = .none) :
    northReceptionEnded l = { l with northRx := .hunt, northHold := false } := by
  simp [northReceptionEnded, h]

/-- The end of a reception in an UNCONFIGURED part leaves the rates. -/
theorem sameStanding_ended (s : State) (none_ : s.lines.northPending = .none) :
    SameStanding s { s with lines := northReceptionEnded s.lines } := by
  rw [northReceptionEnded_of_none none_]
  exact ⟨rfl, rfl, rfl, rfl, rfl, rfl, rfl, rfl, rfl, rfl, rfl, id, rfl⟩

theorem unconfiguredStands_receiveNorth (t : Telegram) {s : State} (h : s.UnconfiguredStands) :
    (receiveNorth t s).UnconfiguredStands := by
  refine h.of_standing (by rw [receiveNorth_frame]) (receiveNorth_active t s) fun d => ?_
  have ended := sameStanding_ended s (h.rates d).2.2.2
  have arrived : s.afterArrival = { s with lines := northReceptionEnded s.lines } :=
    afterArrival_unconfigured d
  have reserved : SameStanding s (reserveReply s.afterArrival) := by
    rw [arrived]
    exact ended.trans ⟨rfl, rfl, rfl, rfl, rfl, rfl, rfl, rfl, rfl, rfl, rfl, id, rfl⟩
  have none_ : (reserveReply s.afterArrival).banks.active = none := by
    rw [arrived]; exact h.bank.1 d
  rcases receiveNorth_cases t s with ⟨_, e⟩ | ⟨_, _, e⟩ | ⟨_, _, _, ⟨_, e⟩ | ⟨_, _, e⟩ | ⟨_, _, e⟩⟩ <;>
    rw [e]
  · exact .refl s
  · exact ended
  · rw [arrived]; exact ended
  · unfold dispatchOwn
    split
    · exact reserved.trans (sameStanding_serveRequest _ none_)
    · exact reserved.trans (sameStanding_respond _ _ _ _ _)
  · exact reserved.trans (sameStanding_dispatchNode t (by rw [arrived]; exact d))

theorem sameStanding_endReception (line : Line) {s : State} (none_ : s.lines.northPending = .none) :
    SameStanding s (endReception line s) := by
  cases line
  · exact ⟨rfl, rfl, rfl, rfl, rfl, rfl, rfl, rfl, rfl, rfl, rfl, id, rfl⟩
  · rw [endReception_north]
    exact sameStanding_ended s none_

theorem unconfiguredStands_endReception (line : Line) {s : State} (h : s.UnconfiguredStands) :
    (endReception line s).UnconfiguredStands :=
  h.of_standing (by rw [endReception_frame]) (by rw [endReception_frame])
    fun d => sameStanding_endReception line (h.rates d).2.2.2

/-- R22: an UNCONFIGURED part has no open transaction, so a reply ends its reception alone. -/
theorem unconfiguredStands_receiveSouth (t : Telegram) {take : Transaction → State → State} {s : State}
    (h : s.UnconfiguredStands)
    (leaves : ∀ tr u, (take tr u).control = u.control ∧ (take tr u).banks = u.banks) :
    (receiveSouth t take s).UnconfiguredStands := by
  rcases receiveSouth_cases t take s with ⟨_, e⟩ | ⟨_, _, tr, open_, _, e⟩ | ⟨_, _, e⟩ <;> rw [e]
  · exact h
  · obtain ⟨control, banks⟩ := leaves tr s.afterReply
    refine h.of_standing (by rw [control]; rfl) (by rw [banks]; rfl) fun d => ?_
    rw [h.scan d] at open_
    cases open_
  · exact unconfiguredStands_endReception .south h

theorem unconfiguredStands_windowExpiry (receiving : Bool) {s : State} (h : s.UnconfiguredStands) :
    (windowExpiry receiving s).UnconfiguredStands := by
  rcases windowExpiry_cases receiving s with ⟨tr, open_, _, e⟩ | ⟨_, e⟩ <;> rw [e]
  · rw [deliverMiss_frame]
    refine h.of_standing rfl rfl fun d => ?_
    rw [h.scan d] at open_
    cases open_
  · exact h

theorem unconfiguredStands_idleStep (line : IdleLine) {s : State} (h : s.UnconfiguredStands) :
    (idleStep line s).UnconfiguredStands := by
  have lines : ∀ l : Lines, l.southRate = s.lines.southRate → l.northRate = s.lines.northRate →
      l.southPending = s.lines.southPending → l.northPending = s.lines.northPending →
      ({ s with lines := l } : State).UnconfiguredStands := fun l sr nr sp np =>
    h.of_standing rfl rfl fun _ => ⟨rfl, rfl, rfl, rfl, rfl, rfl, sr, nr, sp, np, rfl, id, rfl⟩
  cases line with
  | south receiving =>
    simp only [idleStep, southIdle, receiverIdle]
    repeat' split
    · exact h
    · exact lines _ rfl rfl rfl rfl
    · exact h
    · exact unconfiguredStands_endReception .south h
  | northReceive receiving =>
    simp only [idleStep, northReceiveIdle, receiverIdle]
    split
    · exact lines _ rfl rfl rfl rfl
    · exact h
    · exact unconfiguredStands_endReception .north h
  | northTransmit =>
    simp only [idleStep, northTransmitIdle]
    split
    · exact lines _ rfl rfl rfl rfl
    · exact h

/-- R107: with an empty slot the end of a period leaves an output. -/
theorem unconfiguredStands_periodEnd (k : Fin 4) {s : State} (h : s.UnconfiguredStands) :
    (periodEnd k s).UnconfiguredStands := by
  refine h.of_standing rfl rfl fun d => ?_
  have rest : s.pwm.outputs[k].periodEnd = s.pwm.outputs[k] := by
    rw [h.outputs d k]; rfl
  have outputs : (periodEnd k s).pwm.outputs = s.pwm.outputs := by
    simp only [periodEnd, rest]
    exact Vector.set_getElem_self k.isLt
  exact ⟨rfl, rfl, rfl, rfl, rfl, outputs, rfl, rfl, rfl, rfl, rfl, id, rfl⟩

/-- R145: a class that is served clears at most one notice flag. -/
theorem serveClass_sources (c : NorthClass) (s : State) :
    (serveClass c s).alarm.sources = s.alarm.sources ∨
      ∃ j : Fin 77, (serveClass c s).alarm.sources =
        s.alarm.sources.set j { s.alarm.sources[j] with notice := false } := by
  cases c with
  | alert =>
    simp only [serveClass, sendAlert]
    split
    · exact .inl rfl
    · exact .inr ⟨_, rfl⟩
  | response =>
    simp only [serveClass, sendResponse]
    split <;> exact .inl rfl
  | report =>
    simp only [serveClass, sendReport]
    split <;> exact .inl rfl

/-- A class that is served leaves every condition. -/
theorem serveClass_condition (c : NorthClass) (s : State) (i : Fin 77) :
    (serveClass c s).alarm.sources[i].condition = s.alarm.sources[i].condition := by
  rcases serveClass_sources c s with e | ⟨j, e⟩ <;> rw [e]
  rw [fin_getElem_set]
  split
  · next same => rw [same]
  · rfl

theorem unconfiguredStands_northChoiceStep {s : State} (h : s.UnconfiguredStands) :
    (northChoiceStep s).UnconfiguredStands := by
  refine h.of_standing (by rw [northChoiceStep_frame]) (by rw [northChoiceStep_frame]) fun _ => ?_
  have condition : (northChoiceStep s).alarm.sources[(74 : Fin 77)].condition =
      s.alarm.sources[(74 : Fin 77)].condition := by
    rcases northChoiceStep_cases s with ⟨_, c, _, e⟩ | ⟨_, e⟩ <;> rw [e]
    exact serveClass_condition c (updateCredits c s) 74
  rw [northChoiceStep_frame]
  exact ⟨rfl, rfl, rfl, rfl, rfl, rfl, rfl, rfl, rfl, rfl, rfl, id, condition⟩

/-- R2: with no rate pending the end of a transmission brings none. -/
theorem unconfiguredStands_northSent (receiving : Bool) {s : State} (h : s.UnconfiguredStands) :
    (northSent receiving s).UnconfiguredStands := by
  refine h.of_standing (by rw [northSent_frame]) (by rw [northSent_frame]) fun d => ?_
  have none_ := (h.rates d).2.2.2
  rcases northSent_cases receiving s with ⟨tel, mark, _, e⟩ | ⟨_, e⟩ <;> rw [e]
  · cases mark <;> simp only [markEffect, endOldRate, none_]
    all_goals exact ⟨rfl, rfl, rfl, rfl, rfl, rfl, rfl, rfl, rfl, none_.symm ▸ rfl, rfl, id, rfl⟩
  · exact .refl s

/-! ### Close, activation and resets -/

/-- A swap or an entry into PURGE leaves a configured part. -/
theorem configured_closeCycle {s : State} (h : s.Configured) : (closeCycle s).Configured := by
  have work : (closeWork s).Configured := by rw [closeWork_frame]; exact ⟨h.device, h.active⟩
  have swap : (closeSwap (closeWork s)).Configured := by
    rcases closeSwap_cases (closeWork s) with ⟨_, e⟩ | ⟨_, e⟩ <;> rw [e]
    · rw [swapAtClose_frame]; exact ⟨work.device, by simp⟩
    · exact work
  have purge : (closePurge (closeSwap (closeWork s))).Configured := by
    rcases closePurge_cases (closeSwap (closeWork s)) with ⟨_, _, e⟩ | ⟨_, e⟩ <;> rw [e]
    · rw [purgeExpiry_frame]; exact ⟨by simp, swap.active⟩
    · exact swap
  simp only [closeCycle]
  split
  · exact ⟨by simpa using purge.device, by simpa using purge.active⟩
  · exact purge

theorem configured_firstActivation (s : State) : (firstActivation s).Configured where
  device := by simp [firstActivation, enterPurge]
  active := by simp [firstActivation, enterPurge]

theorem unconfiguredStands_checkEndStep {s : State} (h : s.UnconfiguredStands) :
    (checkEndStep s).UnconfiguredStands := by
  have failed : ∀ result payload, (failActivation result payload s).UnconfiguredStands := fun _ _ =>
    h.of_standing rfl rfl fun _ =>
      (sameStanding_banks s (b := { s.banks with state := .idle }) rfl (.inl (by simp))).trans
        (sameStanding_respond _ _ _ _ _)
  unfold checkEndStep checkEnd
  repeat' split
  · exact failed _ _
  · exact failed _ _
  · exact (configured_firstActivation s).stands
  · next d => exact State.Configured.stands ⟨d, (h.configured d).active⟩
  · exact h

/-- R15, R22, R109, R126, R163: a part at its cold-reset values stands still. -/
theorem unconfiguredStands_reset {s : State} (scan : s.scan = ScanEngine.initial)
    (converter : s.converter = []) (relays : s.relayQueue = [])
    (silence : s.north.silence = .stopped ∧ s.north.supervisorLost = false)
    (outputs : ∀ k : Fin 4, s.pwm.outputs[k] = PwmOutput.initial)
    (rates : s.lines.southRate = .b19200 ∧ s.lines.northRate = .b19200 ∧ s.lines.southPending = none ∧
      s.lines.northPending = .none)
    (device : s.control.device = .unconfigured) (active : s.banks.active = none)
    (second : s.banks.bankB = []) (state : s.banks.state = .idle)
    (overrun : s.alarm.sources[(74 : Fin 77)].condition = false) : s.UnconfiguredStands where
  scan _ := scan
  converter _ := converter
  relays _ := relays
  silence _ := silence
  outputs _ := outputs
  rates _ := rates
  bank := iff_of_true device active
  secondBank _ := second
  swap _ := by simp [state]
  overrun _ := overrun

/-- R109: the outputs after a reset. -/
theorem reset_outputs : ∀ k : Fin 4, State.reset.pwm.outputs[k] = PwmOutput.initial := by decide

/-- R152: SCAN OVERRUN does not hold after a reset. -/
theorem reset_overrun : State.reset.alarm.sources[(74 : Fin 77)].condition = false ∧
    AlarmUnit.initial.sources[(74 : Fin 77)].condition = false := by decide

theorem unconfiguredStands_releaseHold (release : Release) {s : State} (h : s.UnconfiguredStands) :
    (releaseHold release s).UnconfiguredStands := by
  rcases releaseHold_cases release s with ⟨_, e⟩ | ⟨_, _, e⟩ | ⟨_, _, e⟩ <;> rw [e]
  · exact h
  · exact { h with }
  · exact unconfiguredStands_reset rfl rfl rfl ⟨rfl, rfl⟩ reset_outputs ⟨rfl, rfl, rfl, rfl⟩ rfl rfl rfl rfl
      reset_overrun.1

/-- R108, R109: with no bank active every output is set to full duty at once. -/
theorem outputPair_of_none {s : State} (h : s.banks.active = none) (k : Fin 4) :
    outputPair s k = PwmOutput.initial.running := by
  simp [outputPair, BankManager.activeBank, h, pwmPair, PwmOutput.initial]

theorem unconfiguredStands_warmReset {s : State} (h : s.UnconfiguredStands) :
    (warmReset s).UnconfiguredStands := by
  cases active : s.banks.active with
  | some bank =>
    refine State.Configured.stands ⟨?_, ?_⟩ <;> simp [warmReset, active, enterPurge, warmBlocks]
  | none =>
    have lines : (warmReset s).lines = Lines.initial := by
      rw [warmReset_lines, warmLines, BankManager.activeBank, active]
      rfl
    have rest : warmReset s = evalRelays (setDevice .unconfigured (setOutputs (warmBlocks s))) := by
      simp only [warmReset, active]
    refine unconfiguredStands_reset ?_ ?_ ?_ ?_ (fun k => ?_) (by rw [lines]; exact ⟨rfl, rfl, rfl, rfl⟩)
      ?_ ?_ ?_ ?_ ?_ <;> rw [rest]
    · simp [warmBlocks, State.reset]
    · simp [warmBlocks, State.reset]
    · simp [warmBlocks, State.reset]
    · simp [warmBlocks, State.reset, NorthLink.initial]
    · have pair := outputPair_of_none (s := warmBlocks s) active k
      simp only [evalRelays_pwm, setDevice_pwm, setOutputs, fin_getElem_mapFin, pair]
      rfl
    · simp
    · simpa [warmBlocks] using active
    · simpa [warmBlocks] using h.secondBank active
    · simp [warmBlocks]
    · rw [evalRelays_sources, setDevice_source, if_neg (by decide), if_neg (by decide), setOutputs_alarm]
      exact reset_overrun.2

/-! ### All commands -/

/-- R28: a south transaction opens in a configured part alone. -/
theorem configured_of_loopFree {s : State} (h : s.UnconfiguredStands) (free : loopFree s = true) :
    s.Configured := by
  simp only [loopFree, Bool.and_eq_true, bne_iff_ne] at free
  exact h.configured free.1.1.1.1

theorem effect_keeps_unconfiguredStands (c : Instr) {s : State} (h : s.UnconfiguredStands) :
    (effect c s).UnconfiguredStands := by
  cases c with
  | coldReset r => exact unconfiguredStands_releaseHold r h
  | resetHold k =>
    simp only [effect]
    split
    · exact unconfiguredStands_reset rfl rfl rfl ⟨rfl, rfl⟩ reset_outputs ⟨rfl, rfl, rfl, rfl⟩ rfl rfl rfl
        rfl reset_overrun.2
    · exact h
  | warmReset =>
    simp only [effect]
    split
    · exact unconfiguredStands_warmReset h
    · exact h
  | tableWrite | tableRead | activate | acknowledge | status | readChannels | readZone | readFan | restart
  | driveSet | command | dispatchBadRequest | unknownRequest => exact unconfiguredStands_receiveNorth _ h
  | reading =>
    refine unconfiguredStands_receiveSouth _ h fun tr u => ?_
    rw [takeReadingFrom_frame]
    exact ⟨rfl, rfl⟩
  | driveStatus =>
    refine unconfiguredStands_receiveSouth _ h fun tr u => ?_
    rw [takeDriveStatusFrom_frame]
    exact ⟨rfl, rfl⟩
  | answer =>
    refine unconfiguredStands_receiveSouth _ h fun tr u => ?_
    rw [takeAnswer_frame]
    exact ⟨rfl, rfl⟩
  | replyWindowExpiry receiving => exact unconfiguredStands_windowExpiry receiving h
  | localConversionComplete sample =>
    rcases conversionStep_cases sample s with ⟨i, rest, busy, e⟩ | ⟨_, e⟩ <;> simp only [effect, e]
    · rw [takeReading_frame]
      refine h.of_standing rfl rfl fun d => ?_
      rw [h.converter d] at busy
      cases busy
    · exact h
  | cycleTimerExpiry =>
    simp only [effect]
    refine h.of_standing (by rw [timerExpiry_frame]) (by rw [timerExpiry_frame]) fun d => ?_
    have stopped : timerExpiry s = s := by simp [timerExpiry, h.scan d, ScanEngine.initial]
    rw [stopped]
    exact .refl s
  | cycleClose =>
    simp only [effect]
    split
    · next due =>
      simp only [closeDue, Bool.and_eq_true, bne_iff_ne] at due
      exact (configured_closeCycle (h.configured due.1.1.1.1)).stands
    · exact h
  | fanDrive =>
    rcases fanDriveStep_cases s with ⟨free, f, _, e⟩ | ⟨_, _, e⟩ | ⟨_, e⟩ <;> simp only [effect, e]
    · have k := configured_of_loopFree h free
      exact State.Configured.stands ⟨by simpa [openFanDrive] using k.device, by simpa [openFanDrive] using k.active⟩
    · exact { h with }
    · exact h
  | relayTransaction =>
    rcases relayStep_cases s with ⟨free, entry, _, e⟩ | ⟨_, e⟩ <;> simp only [effect, e]
    · have k := configured_of_loopFree h free
      exact State.Configured.stands ⟨by simpa [openRelay] using k.device, by simpa [openRelay] using k.active⟩
    · exact h
  | scanTransaction =>
    rcases scanStep_cases s with ⟨free, i, _, e⟩ | ⟨_, e⟩ <;> simp only [effect, e]
    · have k := configured_of_loopFree h free
      exact State.Configured.stands ⟨by simpa [openScan] using k.device, by simpa [openScan] using k.active⟩
    · exact h
  | southRateChange =>
    rcases southRateStep_cases s with ⟨r, waits, _, e⟩ | ⟨_, e⟩ <;> simp only [effect, e]
    · refine h.of_standing rfl rfl fun d => ?_
      rw [(h.rates d).2.2.1] at waits
      cases waits
    · exact h
  | northChoice => exact unconfiguredStands_northChoiceStep h
  | northTransmissionEnd receiving => exact unconfiguredStands_northSent receiving h
  | activationCheckEnd => exact unconfiguredStands_checkEndStep h
  | purgeTimerExpiry =>
    rcases purgeTimerStep_cases s with ⟨purge, _, e⟩ | e <;> simp only [effect, e]
    · rw [purgeExpiry_frame]
      exact State.Configured.stands ⟨by simp, (h.configured (by simp [purge])).active⟩
    · exact h
  | supervisorSilenceExpiry =>
    rcases silenceExpiry_cases s with ⟨n, runs, e⟩ | ⟨_, e⟩ <;> simp only [effect, e]
    · refine h.of_standing (by simp) (by simp) fun d => ?_
      rw [(h.silence d).1] at runs
      cases runs
    · exact h
  | tachPulse => exact { h with }
  | pwmPeriodEnd k => exact unconfiguredStands_periodEnd k h
  | lineIdle line => exact unconfiguredStands_idleStep line h
  | telegramAbandoned line cause =>
    rcases abandonStep_cases line cause s with ⟨_, e⟩ | ⟨_, e⟩ <;> simp only [effect, e]
    · exact unconfiguredStands_endReception line h
    · exact h
  | discardedTelegram line chars =>
    rcases discardStep_cases line chars s with ⟨_, _, e⟩ | ⟨_, e⟩ <;> simp only [effect, e]
    · exact unconfiguredStands_endReception line h
    · exact h
  | southTransmissionEnd =>
    rcases southSent_cases s with ⟨_, e⟩ | ⟨_, e⟩ <;> simp only [effect, e]
    · refine h.of_standing rfl rfl fun d => ?_
      have slot : s.scan.slot.map (fun tr => { tr with windowBegun := true }) = s.scan.slot := by
        rw [h.scan d]; rfl
      rw [slot]
      exact ⟨rfl, rfl, rfl, rfl, rfl, rfl, rfl, rfl, rfl, rfl, rfl, id, rfl⟩
    · exact h

/-- Settles O11, by the case split over the commands in `effect_keeps_unconfiguredStands`. -/
theorem stepKeepsUnconfiguredStands : Obligations.StepKeepsUnconfiguredStands :=
  step_keeps (fun _ _ h => { h with }) fun c _ _ h => effect_keeps_unconfiguredStands c h

end Sys2Proof.Machine
end

section
/-! The cold reset, the warm reset and the state after a reset. Settles ResetMeetsEveryInvariant,
ColdResetSetsEveryBlock and WarmResetRestartsFromTheActiveBank. -/

namespace Sys2Proof.Machine

/-! ### The records after a reset (R61, R87, R114, R152) -/

theorem reset_channel (i : Fin 64) : State.reset.store.channels[i] = ChannelRec.initial := by
  simp [State.reset, ChannelStore.initial]

theorem reset_zone (z : Fin 8) : State.reset.zones[z] = ZoneRec.initial := by
  simp [State.reset]

theorem reset_fan (f : Fin 16) : State.reset.alloc.fans[f] = FanRec.initial := by
  simp [State.reset, Allocator.initial]

theorem reset_tach (k : Fin 4) : State.reset.pwm.tach[k] = 0 := by
  simp [State.reset, PwmUnit.initial]

/-- R152: after a reset every source is NORMAL but UNCONFIGURED, which is RAISED. -/
theorem reset_source (i : Fin 77) :
    State.reset.alarm.sources[i] =
      if i = sourceUnconfigured then SourceRec.unconfiguredRaised else SourceRec.initial := by
  have place : (sourceUnconfigured : Fin 77).val = 72 := rfl
  by_cases h : i = sourceUnconfigured
  · subst h; simp [State.reset, place]
  · have ne : ¬ 72 = i.val := fun c => h (Fin.ext (place.trans c).symm)
    simp [State.reset, h, ne]

theorem reset_tables : State.reset.tables = [] := rfl

theorem reset_policy : State.reset.policy = Policy.builtIn := rfl

/-! ### The invariants of the reset state -/

theorem reset_banksInForm : State.reset.BanksInForm where
  formA := rfl
  formB := rfl
  insideA := by simp [State.reset, BankManager.initial]
  insideB := by simp [State.reset, BankManager.initial]

theorem reset_banksChecked : State.reset.BanksChecked where
  active := by simp [State.reset, BankManager.initial, BankManager.activeBank]
  pendingSwap := by simp [State.reset, BankManager.initial]

theorem reset_queuesAccounted : State.reset.QueuesAccounted := by
  constructor <;> decide

theorem reset_sourcesCoherent : State.reset.SourcesCoherent where
  holds i := by
    rw [reset_source]
    split <;> simp [SourceRec.unconfiguredRaised, SourceRec.initial]

/-- R138, R146: UNCONFIGURED energizes ALARM, and the built-in policy makes nothing audible. -/
theorem reset_relaysFollow : State.reset.RelaysFollow where
  alarm := iff_of_true rfl ⟨sourceUnconfigured, by
    rw [reset_source, if_pos rfl]
    simp [SourceRec.unconfiguredRaised]⟩
  horn := iff_of_false (by decide) (by simp [reset_policy, Policy.builtIn])
  hold := by decide

theorem reset_deviceCoherent : State.reset.DeviceCoherent := by
  constructor <;> decide

theorem reset_unconfiguredStands : State.reset.UnconfiguredStands :=
  unconfiguredStands_reset rfl rfl rfl ⟨rfl, rfl⟩ reset_outputs ⟨rfl, rfl, rfl, rfl⟩ rfl rfl rfl rfl
    reset_overrun.1

theorem reset_disabledAtReset : State.reset.DisabledAtReset where
  channels i _ := reset_channel i
  zones z _ := reset_zone z
  fans f _ := reset_fan f

theorem reset_measuredInRange : State.reset.MeasuredInRange where
  value i := by rw [reset_channel]; exact Nat.zero_le _
  lastRaw i := by rw [reset_channel]; exact Nat.zero_le _
  recovery i := by rw [reset_channel]; exact Nat.zero_le _
  held z := by rw [reset_zone]; exact Nat.zero_le _
  ringLength z := by rw [reset_zone]; exact Nat.zero_le _
  ring z := by rw [reset_zone]; simp [ZoneRec.initial]
  rate z := by rw [reset_zone]; simp [ZoneRec.initial]
  qGen z := by rw [reset_zone]; exact Nat.zero_le _
  qReq z := by rw [reset_zone]; exact Nat.zero_le _
  tach k := by rw [reset_tach]; exact Nat.zero_le _
  cycle := Nat.zero_le _
  interleave := Nat.zero_le _

/-- With no table every channel is of kind NONE. -/
theorem channelOf_reset_kind (i : Nat) : (channelOf State.reset.tables i).kind = .none := by
  simp [reset_tables, channelOf, Memory.byteAt, Memory.read, channelKindOfBits]

/-- With no table every fan is disabled. -/
theorem fanOf_reset_enable (f : Nat) : (fanOf State.reset.tables f).enable = false := by
  simp [reset_tables, fanOf, Memory.byteAt, Memory.read]

theorem reset_countsAndDuties : State.reset.CountsAndDuties where
  checked := reset_banksChecked
  misses i enabled := absurd (channelOf_reset_kind i) enabled
  fails f enabled := by rw [fanOf_reset_enable] at enabled; cases enabled
  goods f := by rw [reset_fan]; exact Nat.zero_le _
  allocated f := by rw [reset_fan]; exact Nat.le_refl _
  commanded f := by rw [reset_fan]; exact Nat.le_refl _
  manual f := by rw [reset_fan]; simp [FanRec.initial]
  lastSent f := by rw [reset_fan]; simp [FanRec.initial]
  sinceSent f := by rw [reset_fan]; exact Nat.zero_le _
  fullOutsideRun _ f := by rw [reset_fan]; rfl

/-- Settles O4, invariant by invariant. -/
theorem resetMeetsEveryInvariant : Obligations.ResetMeetsEveryInvariant :=
  ⟨reset_banksInForm, reset_banksChecked, reset_queuesAccounted, reset_sourcesCoherent,
    reset_relaysFollow, reset_deviceCoherent, reset_unconfiguredStands, reset_disabledAtReset,
    reset_measuredInRange, reset_countsAndDuties, southDiscipline_reset rfl rfl,
    northDiscipline_of_empty rfl rfl rfl rfl rfl rfl, strapAddress_ge Config.strapAtReset⟩

/-! ### The cold reset (R126, R196, R197) -/

/-- A vector of like records is the same written by a constant function. -/
theorem replicate_eq_ofFn {α : Type} (n : Nat) (a : α) :
    Vector.replicate n a = Vector.ofFn fun _ : Fin n => a := by
  ext i hi
  simp

/-- R152: the sources after a cold reset, written by their index. -/
theorem reset_sources :
    State.reset.alarm.sources = Vector.ofFn fun i : Fin 77 =>
      if i.val = 72 then { state := .raised, condition := true, notice := true }
      else { state := .normal, condition := false, notice := false } := by
  ext i hi
  have source := reset_source ⟨i, hi⟩
  simp only [Fin.getElem_fin] at source
  rw [source, Vector.getElem_ofFn]
  by_cases h : i = 72
  · subst h; rfl
  · have ne : (⟨i, hi⟩ : Fin 77) ≠ sourceUnconfigured := fun c => h (congrArg Fin.val c)
    rw [if_neg ne, if_neg h]
    rfl

/-- R8, R196: the address that a strap gives, as a number. -/
theorem strapAddress_eq (strap : BitVec 3) :
    248#8 + strap.setWidth 8 = BitVec.ofNat 8 (248 + strap.toNat) := by
  apply BitVec.eq_of_toNat_eq
  simp

/-- R126: the cold reset, field by field. -/
theorem coldReset_eq (strap : BitVec 3) (s : State) :
    coldReset strap s = { State.reset with
      address := BitVec.ofNat 8 (248 + strap.toNat), pending := s.pending } := by
  rw [coldReset, strapAddress_eq]

/-- R197: the release of the one input that holds the part is the cold reset. -/
theorem releaseHold_last {release : Release} {s : State} (held : s.held = true)
    (last : (s.hold.released release).any = false) :
    releaseHold release s = coldReset (releaseStrap release) s := by
  rcases releaseHold_cases release s with ⟨h, _⟩ | ⟨_, h, _⟩ | ⟨_, _, e⟩
  · rw [held] at h; cases h
  · rw [last] at h; cases h
  · exact e

/-- Settles O17: the release is the last, and the cold reset leaves the reset values. -/
theorem coldResetSetsEveryBlock : Obligations.ColdResetSetsEveryBlock := by
  intro r strap s cause
  have reset : releaseHold r s = coldReset strap s := by
    rcases cause with ⟨rfl, hold⟩ | ⟨rfl, hold⟩
    · exact releaseHold_last (by rw [State.held, hold]; rfl) (by rw [hold]; rfl)
    · exact releaseHold_last (by rw [State.held, hold]; rfl) (by rw [hold]; rfl)
  have taken : exec (.coldReset r) s = .next (releaseHold r s) := rfl
  rw [taken, reset, coldReset_eq]
  refine congrArg Host.Outcome.next ?_
  ext1
  case store => simp only [← replicate_eq_ofFn]; rfl
  case zones => simp only [← replicate_eq_ofFn]; rfl
  case alloc => simp only [← replicate_eq_ofFn]; rfl
  case pwm => simp only [← replicate_eq_ofFn]; rfl
  case alarm => rw [← reset_sources]; rfl
  all_goals rfl

/-! ### The warm reset (R127, R153) -/

/-- R15, R61, R87, R114, R127, R173: what a warm reset leaves before the device state is set, and keeps. -/
theorem warmReset_blocks (s : State) :
    (warmReset s).store = ChannelStore.initial ∧ (warmReset s).zones = Vector.replicate 8 ZoneRec.initial ∧
      (warmReset s).alloc.fans = Vector.replicate 16 FanRec.initial ∧
      (warmReset s).pwm.tach = Vector.replicate 4 0 ∧ (warmReset s).relayQueue = [] ∧
      (warmReset s).banks =
        { s.banks with state := .idle, restartPending := false, warmResetDue := false } ∧
      (warmReset s).north = { NorthLink.initial with silence := (warmReset s).north.silence } := by
  unfold warmReset
  cases s.banks.active <;>
    simp [enterPurge, warmBlocks, State.reset, Allocator.initial, setOutputs]

/-- R109: the pair of an output while every fan is commanded its full duty, an unassigned output's none. -/
theorem outputPair_of_full {s : State} {m : Memory} (active : s.banks.activeBank = some m)
    (full : ∀ f : Fin 16, s.alloc.fans[f].commanded = 100) (k : Fin 4) :
    outputPair s k =
      if (assignedFan m k).isSome then
        { high := (siteOf m).pwmPeriod k, low := 0, period := (siteOf m).pwmPeriod k }
      else { high := 0, low := (siteOf m).pwmPeriod k, period := (siteOf m).pwmPeriod k } := by
  simp only [outputPair, active]
  cases assignedFan m k with
  | none => simp [pwmPair]
  | some f =>
    have whole : ((siteOf m).pwmPeriod k * 100 + 50) / 100 = (siteOf m).pwmPeriod k := by omega
    simp only [pwmPair, full, whole, Option.isSome_some, if_true, Nat.sub_self]

/-- R114, R127: a warm reset commands every fan its full duty. -/
theorem warmBlocks_commanded (s : State) (f : Fin 16) : (warmBlocks s).alloc.fans[f].commanded = 100 := by
  simp [warmBlocks, State.reset, Allocator.initial, FanRec.initial]

/-- R153: the sources after a warm reset into a device state: its own condition RAISED, the others NORMAL. -/
theorem warmBlocks_setDevice_source (d : DeviceState) (s : State) (hd : d ≠ .run) (i : Fin 77) :
    (setDevice d (setOutputs (warmBlocks s))).alarm.sources[i] =
      if i.val = (if d = .purge then 73 else 72) then
        { state := .raised, condition := true, notice := true }
      else { state := .normal, condition := false, notice := false } := by
  have initial : (setOutputs (warmBlocks s)).alarm.sources[i] = SourceRec.initial := by
    simp [warmBlocks, AlarmUnit.initial]
  have purge : (i = sourcePurge) ↔ i.val = 73 := Fin.ext_iff
  have unconfigured : (i = sourceUnconfigured) ↔ i.val = 72 := Fin.ext_iff
  rw [setDevice_source, initial]
  cases d with
  | run => exact absurd rfl hd
  | purge =>
    by_cases h : i.val = 73
    · simp [purge, h, SourceRec.initial, SourceRec.handed]
    · by_cases h' : i.val = 72 <;> simp [purge, unconfigured, h, h', SourceRec.initial, SourceRec.handed]
  | unconfigured =>
    by_cases h : i.val = 72
    · simp [purge, unconfigured, h, SourceRec.initial, SourceRec.handed]
    · by_cases h' : i.val = 73 <;> simp [purge, unconfigured, h, h', SourceRec.initial, SourceRec.handed]

/-- With an active bank the warm reset enters PURGE. -/
theorem warmReset_of_active {s : State} (active : s.banks.active ≠ none) :
    warmReset s = evalRelays (enterPurge (setOutputs (warmBlocks s))) := by
  obtain ⟨bank, h⟩ := Option.ne_none_iff_exists'.1 active
  simp only [warmReset, h]

/-- With no active bank the warm reset leaves the part UNCONFIGURED. -/
theorem warmReset_of_none {s : State} (none_ : s.banks.active = none) :
    warmReset s = evalRelays (setDevice .unconfigured (setOutputs (warmBlocks s))) := by
  simp only [warmReset, none_]

/-- R127: the tables stand through a warm reset. -/
theorem warmBlocks_tables (s : State) : (setOutputs (warmBlocks s)).tables = s.tables := by
  have bank : (warmBlocks s).banks.activeBank = s.banks.activeBank := by
    cases h : s.banks.active with
    | none => simp [warmBlocks, BankManager.activeBank, h]
    | some id => cases id <;> simp [warmBlocks, BankManager.activeBank, BankManager.bank, h]
  rw [State.tables, State.tables, setOutputs_banks, bank]

/-- R153: the sources after a warm reset. -/
theorem warmReset_source (s : State) (i : Fin 77) :
    (warmReset s).alarm.sources[i] =
      if i.val = (if s.banks.active = none then 72 else 73) then
        { state := .raised, condition := true, notice := true }
      else { state := .normal, condition := false, notice := false } := by
  by_cases active : s.banks.active = none
  · rw [warmReset_of_none active, evalRelays_sources, warmBlocks_setDevice_source _ _ (by simp), if_pos active]
    rfl
  · have purge : (enterPurge (setOutputs (warmBlocks s))).alarm =
        (setDevice .purge (setOutputs (warmBlocks s))).alarm := by simp [enterPurge]
    rw [warmReset_of_active active, evalRelays_sources, purge, warmBlocks_setDevice_source _ _ (by simp),
      if_neg active]
    rfl

/-- R119, R127: outside RUN the interlock holds boost charge off. -/
theorem warmReset_inhibit (s : State) : (warmReset s).alloc.inhibit = true := by
  by_cases active : s.banks.active = none
  · simp [warmReset_of_none active, interlockOf]
  · simp [warmReset_of_active active, enterPurge, interlockOf]

theorem warmReset_relaysFollow (s : State) : (warmReset s).relaysFollow := by
  by_cases active : s.banks.active = none
  · rw [warmReset_of_none active]; exact evalRelays_follow _
  · rw [warmReset_of_active active]; exact evalRelays_follow _

/-- R146, R153: the one condition that holds energizes ALARM. -/
theorem warmReset_alarmOn (s : State) : (warmReset s).alarm.alarmOn = true := by
  rw [(warmReset_relaysFollow s).1]
  by_cases active : s.banks.active = none
  · exact ⟨sourceUnconfigured, by
      rw [warmReset_source, if_pos active, show sourceUnconfigured.val = 72 from rfl]; simp⟩
  · exact ⟨sourcePurge, by
      rw [warmReset_source, if_neg active, show sourcePurge.val = 73 from rfl]; simp⟩

/-- R18, R54: the conversions of a cycle, of the inputs whose channel is in use. -/
theorem conversionList_eq (m : Memory) :
    conversionList m = (List.finRange 4).filter fun k => (channelOf m (60 + k.val)).kind ≠ .none := by
  unfold conversionList
  congr 1
  funext k
  simp [bne, beq_eq_decide]

/-- R18, R119: from a Scan Engine at rest an entry into PURGE starts cycle 1. -/
theorem enterPurge_scan_of_initial {s : State} (rest : s.scan = ScanEngine.initial) :
    (enterPurge s).scan =
      { cycle := 1, timer := .running s.site.scanPeriod, cycleOpen := true, scanPos := some 0,
        slot := none, interleave := 0, overrun := false } := by
  simp only [enterPurge, cycleStart_scan, clearTach_scan, setSilence_scan, setPurgeTimer_scan, setDevice_scan,
    clearTach_site, setSilence_site, setPurgeTimer_site, setDevice_site, rest]
  rfl

/-- R109, R119, R163: what a warm reset with an active bank starts. -/
theorem warmReset_starts {s : State} (active : s.banks.active ≠ none) :
    (warmReset s).control = { device := .purge, purgeTimer := some s.site.purgeTime, ready := false } ∧
    (warmReset s).scan =
      { cycle := 1, timer := .running s.site.scanPeriod, cycleOpen := true, scanPos := some 0,
        slot := none, interleave := 0, overrun := false } ∧
    (warmReset s).converter =
      ((List.finRange 4).filter fun k => (channelOf s.tables (60 + k.val)).kind ≠ .none) ∧
    (warmReset s).north.silence = s.silenceStarted := by
  have tables := warmBlocks_tables s
  have site : (setOutputs (warmBlocks s)).site = s.site := by rw [State.site, tables, State.site]
  have rest : (setOutputs (warmBlocks s)).scan = ScanEngine.initial := rfl
  obtain ⟨control, _, converter, north, _⟩ := enterPurge_fields (setOutputs (warmBlocks s))
  rw [warmReset_of_active active]
  refine ⟨?_, ?_, ?_, ?_⟩
  · rw [evalRelays_control, control, site]
  · rw [evalRelays_scan, enterPurge_scan_of_initial rest, site]
  · rw [evalRelays_converter, converter, tables, conversionList_eq]
  · rw [evalRelays_north, north, site]
    rfl

/-- Settles O19, from the blocks, the lines, the outputs and the sources of a warm reset. -/
theorem warmResetRestartsFromTheActiveBank : Obligations.WarmResetRestartsFromTheActiveBank := by
  intro s held due
  have taken : exec .warmReset s = .next (warmReset s) := by
    rw [exec_of_running _ held]
    simp only [effect, due, if_true]
  obtain ⟨hold, address, pending⟩ := samePart_warmReset s held
  obtain ⟨store, zones, fans, tach, relays, banks, north⟩ := warmReset_blocks s
  have lines : (warmReset s).lines = _ := (warmReset_lines s).trans (warmLines_eq s.banks)
  have alloc : (warmReset s).alloc = { fans := Vector.replicate 16 FanRec.initial, inhibit := true } := by
    rw [← fans, ← warmReset_inhibit s]
  refine ⟨warmReset s, taken, by rw [State.held, hold]; exact held, address, pending, store, zones, alloc, tach,
    relays, banks, ?_, ?_, ?_, ?_, ?_, ?_, ?_, ?_, ?_, ?_, ?_, ?_, warmReset_alarmOn s,
    warmReset_relaysFollow s, fun active => ?_, fun none_ => ?_⟩
  iterate 5 rw [north]; rfl
  iterate 7 rw [lines]; rfl
  · obtain ⟨m, bank⟩ : ∃ m, s.banks.activeBank = some m := by
      obtain ⟨id, h⟩ := Option.ne_none_iff_exists'.1 active
      exact ⟨s.banks.bank id, by rw [BankManager.activeBank, h]; rfl⟩
    have tables : s.tables = m := by rw [State.tables, bank]; rfl
    have rates : (warmLines s.banks).southRate = s.site.south ∧ (warmLines s.banks).northRate = s.site.north := by
      rw [State.site, tables, warmLines, bank]
      exact ⟨rfl, rfl⟩
    obtain ⟨control, scan, converter, silence⟩ := warmReset_starts active
    refine ⟨control, scan, converter, silence, ?_, ?_, fun k => ?_, fun i => ?_⟩
    · rw [warmReset_lines]; exact rates.1
    · rw [warmReset_lines]; exact rates.2
    · obtain ⟨_, pwm, _⟩ := enterPurge_fields (setOutputs (warmBlocks s))
      rw [warmReset_of_active active, evalRelays_pwm, pwm, State.site, tables]
      have running : (warmBlocks s).banks.activeBank = some m := bank
      simp only [setOutputs, fin_getElem_mapFin, outputPair_of_full running (warmBlocks_commanded s) k]
    · rw [warmReset_source, if_neg active]
  · have stopped : warmLines s.banks = Lines.initial := by
      rw [warmLines, BankManager.activeBank, none_]; rfl
    have rest := warmReset_of_none none_
    refine ⟨?_, ?_, ?_, ?_, ?_, ?_, fun k => ?_, fun i => ?_⟩
    · rw [rest]; simp [warmBlocks, State.reset, Control.initial]
    · rw [rest]; simp [warmBlocks, State.reset, ScanEngine.initial]
    · rw [rest]; simp [warmBlocks, State.reset]
    · rw [rest]; simp [warmBlocks, State.reset, NorthLink.initial]
    · rw [warmReset_lines, stopped]; rfl
    · rw [warmReset_lines, stopped]; rfl
    · rw [rest]
      simp only [evalRelays_pwm, setDevice_pwm, setOutputs, fin_getElem_mapFin,
        outputPair_of_none (s := warmBlocks s) none_ k]
      rfl
    · rw [warmReset_source, if_pos none_]

end Sys2Proof.Machine
end

section
/-! Arrivals on the north link: what is taken in, what finds no reply entry, and what is answered
BAD_REQUEST. Settles ArrivalWithoutEntryRestartsSilenceOnly and BadRequestsAreAnswered. -/

namespace Sys2Proof.Machine

/-! ### The telegrams that the arrival commands stand for (R9, R12) -/

/-- R9: a kind that the part takes on the north link passes with a payload in its range. -/
theorem passesR9_north {t : Telegram} (kind : t.kind = .driveSet ∨ t.kind = .command ∨ t.kind = .request)
    (length : payloadLengthOk t.kind t.payload.length = true) : passesR9 .north t = true := by
  unfold passesR9
  rw [length]
  rcases kind with h | h | h <;> rw [h] <;> rfl

/-- A request to the own address passes R9 and is supervisor traffic. -/
theorem ownRequest_received (s : State) (code : Byte) {fields : List Byte} (fit : fields.length ≤ 47) :
    passesR9 .north (ownRequest s code fields) = true ∧
      isSupervisorTraffic s.address (ownRequest s code fields) = true := by
  refine ⟨passesR9_north (.inr (.inr rfl)) (decide_eq_true ?_), by simp [isSupervisorTraffic, ownRequest]⟩
  simp only [ownRequest, List.length_cons]
  omega

/-- A telegram to a field node is supervisor traffic. -/
theorem nodeTelegram_traffic {t : Telegram} (address : Byte) (source : t.source = 0#8)
    (node : 1 ≤ t.dest.toNat ∧ t.dest.toNat ≤ 247) : isSupervisorTraffic address t = true := by
  simp [isSupervisorTraffic, source, isNode, node]

/-- Every arrival command is the arrival of a telegram that passes R9 and is supervisor traffic. -/
theorem northArrival_telegram {c : Instr} (h : isNorthArrival c = true) (s : State) :
    ∃ t, exec c s = live (receiveNorth t) s ∧ passesR9 .north t = true ∧
      isSupervisorTraffic s.address t = true := by
  have request : ∀ code fields, fieldsFit fields = true →
      ∃ t, live (receiveRequest code fields) s = live (receiveNorth t) s ∧ passesR9 .north t = true ∧
        isSupervisorTraffic s.address t = true := fun code fields fit =>
    ⟨ownRequest s code fields, rfl, ownRequest_received s code (of_decide_eq_true fit)⟩
  cases c with
  | tableWrite f | tableRead f | activate f | acknowledge f | status f | readChannels f | readZone f
  | readFan f | restart f => exact request _ f h
  | unknownRequest code f => exact request code f (Bool.and_eq_true_iff.1 h).2
  | driveSet node speed =>
    exact ⟨_, rfl, rfl, nodeTelegram_traffic _ rfl (of_decide_eq_true h)⟩
  | command node payload =>
    obtain ⟨node_, length⟩ := Bool.and_eq_true_iff.1 h
    exact ⟨_, rfl, passesR9_north (.inr (.inl rfl)) length,
      nodeTelegram_traffic _ rfl (of_decide_eq_true node_)⟩
  | dispatchBadRequest telegram =>
    refine ⟨misdirectedTelegram s.address telegram, rfl, ?_⟩
    cases telegram with
    | driveSetToOwn speed => exact ⟨rfl, by simp [isSupervisorTraffic, misdirectedTelegram]⟩
    | commandToOwn payload =>
      refine ⟨?_, by simp [isSupervisorTraffic, misdirectedTelegram]⟩
      exact passesR9_north (.inr (.inl rfl)) h
    | requestToNode node payload =>
      obtain ⟨node_, length⟩ := Bool.and_eq_true_iff.1 h
      exact ⟨passesR9_north (.inr (.inr rfl)) length,
        nodeTelegram_traffic _ rfl (of_decide_eq_true node_)⟩
  | coldReset | resetHold | warmReset | reading | driveStatus | answer | replyWindowExpiry
  | localConversionComplete | cycleTimerExpiry | cycleClose | fanDrive | relayTransaction
  | scanTransaction | southRateChange | northChoice | northTransmissionEnd | activationCheckEnd
  | purgeTimerExpiry | supervisorSilenceExpiry | tachPulse | pwmPeriodEnd | lineIdle | telegramAbandoned
  | discardedTelegram | southTransmissionEnd => cases h

/-! ### Arrivals with no free reply entry (R161) -/

/-- R3, R15: a receiver in HUNT takes no telegram. -/
theorem receiveNorth_hunt (t : Telegram) {s : State} (hunt : s.lines.northRx = .hunt) :
    receiveNorth t s = s := by
  rcases receiveNorth_cases t s with ⟨_, e⟩ | ⟨rx, _⟩ | ⟨rx, _⟩
  · exact e
  · exact absurd hunt rx
  · exact absurd hunt rx

/-- R161: supervisor traffic that finds no free entry is not dispatched. -/
theorem receiveNorth_full {t : Telegram} {s : State} (rx : s.lines.northRx ≠ .hunt)
    (passes : passesR9 .north t = true) (traffic : isSupervisorTraffic s.address t = true)
    (full : ¬ s.replyFree) : receiveNorth t s = s.afterArrival := by
  rcases receiveNorth_cases t s with
    ⟨hunt, _⟩ | ⟨_, bad | bad, _⟩ | ⟨_, _, _, ⟨_, e⟩ | ⟨free, _⟩ | ⟨free, _⟩⟩
  · exact absurd hunt rx
  · rw [passes] at bad; cases bad
  · rw [traffic] at bad; cases bad
  · exact e
  · exact absurd free full
  · exact absurd free full

/-- R163, R164: what an arrival leaves in PURGE and RUN of the North Link Unit. -/
theorem afterArrival_north {s : State} (d : s.control.device ≠ .unconfigured) :
    s.afterArrival.north = { s.north with silence := s.silenceStarted, supervisorLost := false } := by
  rw [afterArrival_configured d]
  split
  · simp
  · next found =>
    have stands : s.north.supervisorLost = false := by simpa using found
    rw [← stands]

/-- Settles O20: the telegram is not received, or ends its reception and restarts the silence timer. -/
theorem arrivalWithoutEntryRestartsSilenceOnly : Obligations.ArrivalWithoutEntryRestartsSilenceOnly := by
  intro c s arrival
  obtain ⟨t, taken, passes, traffic⟩ := northArrival_telegram arrival s
  refine ⟨fun hunt => ?_, fun ⟨held, rx⟩ full => ?_⟩
  · rw [taken, live_next, receiveNorth_hunt t hunt, ite_self]
  refine ⟨s.afterArrival, ?_, rfl, ?_, ?_, fun d => ?_, fun d => ⟨afterArrival_north d, fun found => ?_,
    fun lost => ?_⟩⟩
  · rw [taken, live_of_running _ held, receiveNorth_full rx passes traffic full]
  · conv_lhs => rw [afterArrival_frame]
    rw [afterArrival_frame]
  · rw [afterArrival_frame]
  · rw [afterArrival_unconfigured d]
    exact ⟨rfl, rfl⟩
  · rw [afterArrival_configured d, if_neg (by simp [found])]
  · rw [afterArrival_configured d, if_pos lost]
    refine ⟨evalRelays_follow _, fun i => ?_⟩
    rw [evalRelays_sources, handCondition_source]
    have place : (i = sourceSupervisorLost) ↔ i.val = 75 := Fin.ext_iff
    by_cases h : i.val = 75
    · rw [if_pos (place.2 h), if_pos h, ← place.2 h]
      rfl
    · rw [if_neg (fun c => h (place.1 c)), if_neg h]

/-! ### Telegrams that are dispatched (R13) -/

/-- A telegram to the own address that finds an entry is dispatched as management traffic. -/
theorem receiveNorth_own {t : Telegram} {s : State} (rx : s.lines.northRx ≠ .hunt)
    (passes : passesR9 .north t = true) (traffic : isSupervisorTraffic s.address t = true)
    (free : s.replyFree) (own : t.dest = s.address) :
    receiveNorth t s = dispatchOwn t (reserveReply s.afterArrival) := by
  rcases receiveNorth_cases t s with
    ⟨hunt, _⟩ | ⟨_, bad | bad, _⟩ | ⟨_, _, _, ⟨full, _⟩ | ⟨_, _, e⟩ | ⟨_, other, _⟩⟩
  · exact absurd hunt rx
  · rw [passes] at bad; cases bad
  · rw [traffic] at bad; cases bad
  · exact absurd free full
  · exact e
  · exact absurd own other

/-- A telegram to a field node that finds an entry is dispatched as a relay candidate. -/
theorem receiveNorth_node {t : Telegram} {s : State} (rx : s.lines.northRx ≠ .hunt)
    (passes : passesR9 .north t = true) (traffic : isSupervisorTraffic s.address t = true)
    (free : s.replyFree) (other : t.dest ≠ s.address) :
    receiveNorth t s = dispatchNode t (reserveReply s.afterArrival) := by
  rcases receiveNorth_cases t s with
    ⟨hunt, _⟩ | ⟨_, bad | bad, _⟩ | ⟨_, _, _, ⟨full, _⟩ | ⟨_, own, _⟩ | ⟨_, _, e⟩⟩
  · exact absurd hunt rx
  · rw [passes] at bad; cases bad
  · rw [traffic] at bad; cases bad
  · exact absurd free full
  · exact absurd own other
  · exact e

/-- R177: a request that is taken in is served by its code, in the state its arrival leaves. -/
theorem live_receiveRequest {s : State} (open_ : s.northOpen) (free : s.replyFree) (code : Byte)
    {fields : List Byte} (fit : fields.length ≤ 47) :
    live (receiveRequest code fields) s =
      .next (serveRequest (code :: fields) (reserveReply s.afterArrival)) := by
  obtain ⟨passes, traffic⟩ := ownRequest_received s code fit
  rw [live_of_running _ open_.1, receiveRequest, receiveNorth_own open_.2 passes traffic free rfl]
  rfl

/-- The address stands through an arrival. -/
theorem afterArrival_address (s : State) : s.afterArrival.address = s.address := by
  rw [afterArrival_frame]

/-- R14: a request answered at once, from the own address, in the entry its arrival reserved. -/
theorem respondOwn_afterArrival (s : State) (code : Byte) (result : ResultCode) (payload : List Byte) :
    respondOwn code result payload (reserveReply s.afterArrival) =
      s.afterArrival.answered s.address code result payload := by
  rw [respondOwn, respond_reserveReply, reserveReply_address, afterArrival_address]

/-! ### Which request a code names (R177) -/

/-- A code that names none of the nine requests. -/
theorem serveRequest_unknown {code : Byte} (h : code.toNat = 0 ∨ 9 < code.toNat) (fields : List Byte)
    (s : State) : serveRequest (code :: fields) s = respondOwn code .badRequest [] s := by
  have other : ∀ named : Byte, 1 ≤ named.toNat → named.toNat ≤ 9 → code ≠ named := by
    rintro named low high rfl
    omega
  have names : code ≠ codeTableWrite ∧ code ≠ codeTableRead ∧ code ≠ codeActivate ∧
      code ≠ codeAcknowledge ∧ code ≠ codeStatus ∧ code ≠ codeReadChannels ∧ code ≠ codeReadZone ∧
      code ≠ codeReadFan ∧ code ≠ codeRestart := by
    refine ⟨?_, ?_, ?_, ?_, ?_, ?_, ?_, ?_, ?_⟩ <;> exact other _ (by decide) (by decide)
  simp [serveRequest, names, serveUnknown]

/-! ### Requests of a wrong length (R177) -/

theorem serveTableRead_of_length {fields : List Byte} (h : fields.length ≠ 4) (s : State) :
    serveTableRead fields s = respondOwn codeTableRead .badRequest [] s := by
  unfold serveTableRead
  split
  · exact absurd rfl h
  · rfl

theorem serveAcknowledge_of_length {fields : List Byte} (h : fields.length ≠ 2) (s : State) :
    serveAcknowledge fields s = respondOwn codeAcknowledge .badRequest [] s := by
  unfold serveAcknowledge
  split
  · exact absurd rfl h
  · rfl

theorem serveReadChannels_of_length {fields : List Byte} (h : fields.length ≠ 2) (s : State) :
    serveReadChannels fields s = respondOwn codeReadChannels .badRequest [] s := by
  unfold serveReadChannels
  split
  · exact absurd rfl h
  · rfl

theorem serveReadFan_of_length {fields : List Byte} (h : fields.length ≠ 2) (s : State) :
    serveReadFan fields s = respondOwn codeReadFan .badRequest [] s := by
  unfold serveReadFan
  split
  · exact absurd rfl h
  · rfl

theorem serveReadZone_of_length {fields : List Byte} (h : fields.length ≠ 1) (s : State) :
    serveReadZone fields s = respondOwn codeReadZone .badRequest [] s := by
  unfold serveReadZone
  split
  · exact absurd rfl h
  · rfl

/-! ### Misdirected telegrams and impossible speeds (R13, R168) -/

/-- R13: a DRIVE SET or a COMMAND to the own address is answered BAD_REQUEST. -/
theorem live_misdirectedOwn {s : State} (open_ : s.northOpen) (free : s.replyFree) {t : Telegram}
    (passes : passesR9 .north t = true) (source : t.source = 0#8) (own : t.dest = s.address)
    (kind : t.kind ≠ .request) :
    live (receiveNorth t) s =
      .next (s.afterArrival.answered s.address (kindCode t.kind) .badRequest []) := by
  have traffic : isSupervisorTraffic s.address t = true := by simp [isSupervisorTraffic, source, own]
  rw [live_of_running _ open_.1, receiveNorth_own open_.2 passes traffic free own]
  unfold dispatchOwn
  split
  · exact absurd ‹_› kind
  · next k => rw [respond_reserveReply, reserveReply_address, afterArrival_address]

/-- R168: a DRIVE SET of no duty, or of 255 with no fan to absorb it, is answered BAD_REQUEST. -/
theorem takeDriveSet_bad {s : State} {node speed : Byte}
    (bad : (100 < speed.toNat ∧ speed.toNat < 255) ∨
      (speed.toNat = 255 ∧ remoteFanOf s.tables node = none)) :
    takeDriveSet node speed s = respond node (kindCode .driveSet) .badRequest [] s := by
  unfold takeDriveSet
  rcases bad with range | ⟨top, none_⟩
  · rw [if_pos range]
  · rw [if_neg (by omega), none_]
    simp only [top, if_true]

/-- Settles O29: each of the telegrams is taken in and answered BAD_REQUEST in its reserved entry. -/
theorem badRequestsAreAnswered : Obligations.BadRequestsAreAnswered := by
  intro s open_ free
  have request : ∀ code fields, fields.length ≤ 47 →
      serveRequest (code :: fields) (reserveReply s.afterArrival) =
        respondOwn code .badRequest [] (reserveReply s.afterArrival) →
      live (receiveRequest code fields) s =
        .next (s.afterArrival.answered s.address code .badRequest []) := fun code fields fit bad => by
    rw [live_receiveRequest open_ free code fit, bad, respondOwn_afterArrival]
  refine ⟨fun code fields unknown fit => ?_, fun speed => ?_, fun payload length => ?_,
    fun node payload low high other nonempty length => ?_, fun fields fit => ⟨fun length => ?_,
    fun length => ⟨?_, ?_, ?_⟩, fun length => ?_⟩, fun node speed low high other bad => ?_⟩
  · exact request code fields fit (serveRequest_unknown unknown fields _)
  · exact live_misdirectedOwn open_ free (t := misdirectedTelegram s.address (.driveSetToOwn speed)) rfl rfl
      rfl (by simp [misdirectedTelegram])
  · exact live_misdirectedOwn open_ free (t := misdirectedTelegram s.address (.commandToOwn payload))
      (passesR9_north (.inr (.inl rfl)) (decide_eq_true length)) rfl rfl
      (by simp [misdirectedTelegram])
  · have taken : exec (.dispatchBadRequest (.requestToNode node payload)) s =
        live (receiveNorth { dest := node, source := 0#8, kind := .request, payload }) s := rfl
    have passes : passesR9 .north { dest := node, source := 0#8, kind := .request, payload } = true :=
      passesR9_north (.inr (.inr rfl)) (decide_eq_true ⟨nonempty, length⟩)
    rw [taken, live_of_running _ open_.1,
      receiveNorth_node open_.2 passes (nodeTelegram_traffic _ rfl ⟨low, high⟩) free other]
    exact congrArg _ (respond_reserveReply _ _ _ _ _)
  · exact request _ _ fit (serveTableRead_of_length length _)
  · exact request _ _ fit (serveAcknowledge_of_length length _)
  · exact request _ _ fit (serveReadChannels_of_length length _)
  · exact request _ _ fit (serveReadFan_of_length length _)
  · exact request _ _ fit (serveReadZone_of_length length _)
  · have taken : exec (.driveSet node speed) s =
        live (receiveNorth { dest := node, source := 0#8, kind := .driveSet, payload := [speed] }) s := rfl
    have tables : (reserveReply s.afterArrival).tables = s.tables := by
      rw [reserveReply_tables, afterArrival_tables]
    rw [taken, live_of_running _ open_.1, receiveNorth_node open_.2 rfl
      (nodeTelegram_traffic _ rfl ⟨low, high⟩) free other]
    refine congrArg _ ((takeDriveSet_bad ?_).trans (respond_reserveReply _ _ _ _ _))
    rw [tables]
    exact bad

end Sys2Proof.Machine
end

section
/-! Classification, replies and the expiry of the reply window. Settles ReadingReachesItsChannel,
DriveStatusJudgesItsFan, UnmatchedReplyIsDiscarded and WindowExpiryDeliversTheMiss. -/

namespace Sys2Proof.Machine

/-! ### Classification (R40, R41) -/

/-- R40, R41: what it is for a window to claim a reply. -/
theorem claims_iff (s : State) (k : Nat) (kind : ReplyKind) (node : Byte) :
    (windowOf s.tables k).claims kind node = true ↔ s.windowClaims k kind node := by
  unfold WindowEntry.claims WindowEntry.live State.windowClaims
  cases (windowOf s.tables k).target <;> cases (windowOf s.tables k).accepts <;> cases kind <;>
    simp

/-- R41: the classifying window is the lowest-numbered one that claims. -/
theorem classifyingWindow_of_classifies {s : State} {kind : ReplyKind} {node : Byte} {k index : Nat}
    (h : s.classifies kind node k index) :
    classifyingWindow s.tables kind node = some (windowOf s.tables k) ∧
      (windowOf s.tables k).mapped node = index := by
  obtain ⟨bound, claims, lowest, mapped⟩ := h
  refine ⟨?_, mapped.symm⟩
  unfold classifyingWindow
  rw [List.find?_eq_some_iff_getElem]
  refine ⟨(claims_iff s k kind node).2 claims, k, by simpa using bound, by simp, fun j hj => ?_⟩
  rw [List.getElem_map, List.getElem_range, Bool.not_eq_true', Bool.eq_false_iff]
  exact fun c => lowest j hj ((claims_iff s j kind node).1 c)

theorem classifyingWindow_of_none {s : State} {kind : ReplyKind} {node : Byte}
    (h : ∀ k, k < 16 → ¬ s.windowClaims k kind node) : classifyingWindow s.tables kind node = none := by
  unfold classifyingWindow
  rw [List.find?_eq_none]
  intro w hw
  obtain ⟨k, hk, rfl⟩ := List.mem_map.1 hw
  exact fun c => h k (List.mem_range.1 hk) ((claims_iff s k kind node).1 c)

/-- R41, R45: a READING that is classified below 60 reaches its channel. -/
theorem classifyChannel_of_classifies {s : State} {node : Byte} {k : Nat} {ch : Fin 64}
    (h : s.classifies .reading node k ch.val) (bound : ch.val < 60) :
    classifyChannel s.tables node = some (windowOf s.tables k, ch) := by
  obtain ⟨window, mapped⟩ := classifyingWindow_of_classifies h
  simp only [classifyChannel, window, mapped, bound, dite_true]

/-- R41, R45: a DRIVE STATUS that is classified reaches its fan. -/
theorem classifyFan_of_classifies {s : State} {node : Byte} {k : Nat} {f : Fin 16}
    (h : s.classifies .driveStatus node k f.val) : classifyFan s.tables node = some f := by
  obtain ⟨window, mapped⟩ := classifyingWindow_of_classifies h
  simp only [classifyFan, window, mapped, f.isLt, dite_true]

theorem classifyChannel_of_unclassified {s : State} {node : Byte} (h : s.unclassified .reading node 60) :
    classifyChannel s.tables node = none := by
  rcases h with none_ | ⟨k, index, classified, outside⟩
  · simp only [classifyChannel, classifyingWindow_of_none none_]
  · obtain ⟨window, mapped⟩ := classifyingWindow_of_classifies classified
    simp only [classifyChannel, window, mapped, Nat.not_lt.2 outside, dite_false]

theorem classifyFan_of_unclassified {s : State} {node : Byte} (h : s.unclassified .driveStatus node 16) :
    classifyFan s.tables node = none := by
  rcases h with none_ | ⟨k, index, classified, outside⟩
  · simp only [classifyFan, classifyingWindow_of_none none_]
  · obtain ⟨window, mapped⟩ := classifyingWindow_of_classifies classified
    simp only [classifyFan, window, mapped, Nat.not_lt.2 outside, dite_false]

/-! ### Replies (R9, R10, R25) -/

/-- R10: what it is to answer the open transaction. -/
theorem answersOpen_iff (tr : Transaction) (t : Telegram) :
    answersOpen (some tr) t = true ↔ t.dest = 0#8 ∧ t.source = tr.node ∧ t.kind = tr.purpose.expects := by
  simp [answersOpen, and_assoc]

/-- R25: a reply that passes R9 and answers the open transaction ends it and is handed on. -/
theorem receiveSouth_answer {s : State} {tr : Transaction} {t : Telegram}
    {take : Transaction → State → State} (rx : s.lines.southRx ≠ .hunt) (slot : s.scan.slot = some tr)
    (passes : passesR9 .south t = true) (answers : answersOpen (some tr) t = true) :
    receiveSouth t take s = take tr s.afterReply := by
  rcases receiveSouth_cases t take s with ⟨hunt, _⟩ | ⟨_, _, tr', slot', _, e⟩ | ⟨_, bad | bad | bad, _⟩
  · exact absurd hunt rx
  · rw [slot, Option.some.injEq] at slot'
    rw [e, slot']
  · rw [slot] at bad; cases bad
  · rw [passes] at bad; cases bad
  · rw [slot, answers] at bad; cases bad

/-- R6, R9, R10: a reply that does not ends its reception alone. -/
theorem receiveSouth_unmatched {s : State} {t : Telegram} {take : Transaction → State → State}
    (rx : s.lines.southRx ≠ .hunt) (bad : passesR9 .south t = false ∨ answersOpen s.scan.slot t = false) :
    receiveSouth t take s = { s with lines := { s.lines with southRx := .hunt } } := by
  rcases receiveSouth_cases t take s with ⟨hunt, _⟩ | ⟨_, passes, _, _, answers, _⟩ | ⟨_, _, e⟩
  · exact absurd hunt rx
  · rcases bad with bad | bad
    · rw [passes] at bad; cases bad
    · rw [answers] at bad; cases bad
  · exact e

theorem receiveSouth_hunt {s : State} {t : Telegram} {take : Transaction → State → State}
    (hunt : s.lines.southRx = .hunt) : receiveSouth t take s = s := by
  rcases receiveSouth_cases t take s with ⟨_, e⟩ | ⟨rx, _⟩ | ⟨rx, _⟩
  · exact e
  · exact absurd hunt rx
  · exact absurd hunt rx

/-- R9: a READING passes with one of the three head statuses. -/
theorem passesR9_reading (dest source status : Byte) (raw : BitVec 16) :
    passesR9 .south { dest, source, kind := .reading, payload := status :: u16 raw.toNat } =
      decide (status.toNat ≤ 2) := rfl

/-! ### Readings (R48, R49) -/

/-- R49: the corrected value of a channel in use. -/
theorem correctedValue_eq {e : ChannelEntry} (used : e.kind ≠ .none) (raw : Nat) :
    correctedValue e raw =
      min (((raw - e.offset) * e.gain + 2048) / 4096) (if e.kind = .current then 10000 else 1000) := by
  unfold correctedValue
  cases k : e.kind <;> simp_all [kindMaximum]

/-- R48, R49: the event that a reading of a channel in use is judged to be. -/
theorem judgeReading_eq {e : ChannelEntry} (used : e.kind ≠ .none) {status : Byte}
    (known : status.toNat ≤ 2) (raw : Nat) :
    judgeReading e (headStatusOf status) raw =
      if status.toNat = 2 then .fault
      else if status.toNat = 1 then .warmup
      else if e.rawLow ≤ raw ∧ raw ≤ e.rawHigh then
        .valid (min (((raw - e.offset) * e.gain + 2048) / 4096) (if e.kind = .current then 10000 else 1000))
      else .miss := by
  have zero : status = 0#8 ↔ status.toNat = 0 := BitVec.toNat_inj.symm
  have one : status = 1#8 ↔ status.toNat = 1 := BitVec.toNat_inj.symm
  obtain h | h | h : status.toNat = 0 ∨ status.toNat = 1 ∨ status.toNat = 2 := by omega
  · simp [headStatusOf, zero, h, judgeReading, correctedValue_eq used]
  · simp [headStatusOf, zero, one, h, judgeReading]
  · simp [headStatusOf, zero, one, h, judgeReading]

/-- R42: a channel of kind NONE takes no action. -/
theorem takeReading_of_none {s : State} {ch : Fin 64} (none_ : (channelOf s.tables ch).kind = .none)
    (policy : ForwardPolicy) (deadband : Nat) (status : HeadStatus) (raw : Nat) :
    takeReading ch policy deadband status raw s = s := by
  simp only [takeReading, none_, if_true]

/-- R48: a channel in use takes its raw value and the event of the reading. -/
theorem takeReading_of_used {s : State} {ch : Fin 64} (used : (channelOf s.tables ch).kind ≠ .none)
    (policy : ForwardPolicy) (deadband : Nat) (status : HeadStatus) (raw : Nat) :
    takeReading ch policy deadband status raw s =
      channelEvent ch policy deadband (judgeReading (channelOf s.tables ch) status raw)
        { s.store.channels[ch] with lastRaw := raw } s := by
  simp only [takeReading, used, if_false]

/-- A reply that is handed on finds the tables and the records as they were. -/
theorem afterReply_tables (s : State) : s.afterReply.tables = s.tables := rfl

/-- Settles O32: the READING answers the poll, is classified to its channel, and is judged there. -/
theorem readingReachesItsChannel : Obligations.ReadingReachesItsChannel := by
  intro s tr status raw k ch ⟨held, rx⟩ slot poll known classified bound
  have handed : exec (.reading 0#8 tr.node status raw) s =
      .next (takeReadingFrom tr.node status raw.toNat s.afterReply) := by
    rw [exec_of_running _ held]
    refine congrArg _ (receiveSouth_answer rx slot ?_ ?_)
    · rw [passesR9_reading]; exact decide_eq_true known
    · rw [answersOpen_iff, poll]; exact ⟨rfl, rfl, rfl⟩
  rw [handed, takeReadingFrom, afterReply_tables, classifyChannel_of_classifies classified bound]
  refine congrArg _ ?_
  by_cases none_ : (channelOf s.tables ch).kind = .none
  · rw [if_pos none_]
    exact takeReading_of_none (s := s.afterReply) none_ _ _ _ _
  · rw [if_neg none_, ← judgeReading_eq none_ known]
    exact takeReading_of_used (s := s.afterReply) none_ _ _ _ _

/-! ### Drive status (R95, R97) -/

theorem takeBad_eq_afterBad (e : FanEntry) (r : FanRec) : r.takeBad e = r.afterBad e := by
  unfold FanRec.takeBad FanRec.afterBad
  cases h : r.health <;> simp

theorem takeGood_eq_afterGood (e : FanEntry) (r : FanRec) : r.takeGood e = r.afterGood e := by
  have good : min (r.goodCount + 1) 15 = if r.goodCount < 15 then r.goodCount + 1 else 15 := by
    split <;> omega
  unfold FanRec.takeGood FanRec.afterGood
  rw [good]
  cases h : r.health with
  | unknown | running => simp
  | failed =>
    by_cases low : (if r.goodCount < 15 then r.goodCount + 1 else 15) < e.recoverCycles
    · simp [low, Nat.not_le.2 low]
    · simp [low, Nat.not_lt.1 low]

/-- R97: an enabled REMOTE fan takes a DRIVE STATUS as a drive fault, a bad or a good sample. -/
theorem takeDriveStatus_eq (e : FanEntry) (running feedback fault : Byte) (r : FanRec) :
    FanRec.takeDriveStatus e (driveReplyOf running feedback fault) r =
      let told := { r with lastStatus := some (driveReplyOf running feedback fault) }
      if fault ≠ 0#8 then
        { told with health := .failed, failCount := e.failCycles, goodCount := 0 }
      else if running = 0#8 ∧ 1 ≤ r.commanded then told.afterBad e
      else told.afterGood e := by
  have clear : fault.toNat = 0 ↔ fault = 0#8 := BitVec.toNat_inj (y := 0#8)
  simp only [FanRec.takeDriveStatus, driveSample, driveReplyOf, ne_eq, clear]
  by_cases faulty : fault = 0#8
  · by_cases stopped : running = 0#8 ∧ 1 ≤ r.commanded
    · simp [faulty, stopped, FanRec.takeSample, takeBad_eq_afterBad]
    · simp [faulty, stopped, FanRec.takeSample, takeGood_eq_afterGood]
  · simp [faulty, FanRec.takeSample, FanRec.takeDriveFault]

theorem enabledRemote_iff (e : FanEntry) : e.enabledRemote = true ↔ e.enable = true ∧ e.remote = true := by
  simp [FanEntry.enabledRemote]

/-- Settles O36: the DRIVE STATUS answers its transaction, is classified to its fan, and is judged there. -/
theorem driveStatusJudgesItsFan : Obligations.DriveStatusJudgesItsFan := by
  intro s tr running feedback fault k f ⟨held, rx⟩ slot purpose classified r told
  have handed : exec (.driveStatus 0#8 tr.node running feedback fault) s =
      .next (takeDriveStatusFrom tr.node (driveReplyOf running feedback fault) s.afterReply) := by
    rw [exec_of_running _ held]
    refine congrArg _ (receiveSouth_answer rx slot rfl ?_)
    rw [answersOpen_iff]
    refine ⟨rfl, rfl, ?_⟩
    rcases purpose with h | h <;> rw [h] <;> rfl
  rw [handed, takeDriveStatusFrom, afterReply_tables, classifyFan_of_classifies classified]
  simp only [takeDriveStatus, afterReply_tables, enabledRemote_iff]
  refine congrArg _ ?_
  by_cases remote : (fanOf s.tables f).enable = true ∧ (fanOf s.tables f).remote = true
  · rw [if_pos remote, if_pos remote, takeDriveStatus_eq, told]
    rfl
  · rw [if_neg remote, if_neg remote]

/-! ### Unmatched replies (R6, R9 to R11) -/

/-- Settles O38: whichever reply it is, it fails R9 or R10, or comes in HUNT. -/
theorem unmatchedReplyIsDiscarded : Obligations.UnmatchedReplyIsDiscarded := by
  intro s c dest source kind reply
  obtain ⟨t, take, taken, rfl, rfl, rfl, status⟩ : ∃ (t : Telegram) (take : Transaction → State → State),
      exec c s = live (receiveSouth t take) s ∧ t.dest = dest ∧ t.source = source ∧ t.kind = kind ∧
      ((∃ status raw, c = .reading dest source status raw ∧ 2 < status.toNat) →
        passesR9 .south t = false) := by
    rcases reply with ⟨status, raw, rfl, rfl⟩ | ⟨running, feedback, fault, rfl, rfl⟩ | ⟨payload, rfl, rfl⟩
    · refine ⟨_, _, rfl, rfl, rfl, rfl, ?_⟩
      rintro ⟨status', raw', e, unknown⟩
      cases e
      rw [passesR9_reading]
      exact decide_eq_false (Nat.not_le.2 unknown)
    · exact ⟨_, _, rfl, rfl, rfl, rfl, fun ⟨_, _, e, _⟩ => by cases e⟩
    · exact ⟨_, _, rfl, rfl, rfl, rfl, fun ⟨_, _, e, _⟩ => by cases e⟩
  refine ⟨fun ⟨held, rx⟩ bad => ?_, fun hunt => ?_⟩
  · rw [taken, live_of_running _ held]
    refine congrArg _ (receiveSouth_unmatched rx ?_)
    rcases bad with idle | other | ⟨tr, slot, other⟩ | unknown
    · rw [idle]; exact .inr rfl
    · refine .inr ?_
      cases slot : s.scan.slot with
      | none => rfl
      | some tr => exact Bool.eq_false_iff.2 fun c => other ((answersOpen_iff tr t).1 c).1
    · rw [slot]
      refine .inr (Bool.eq_false_iff.2 fun c => ?_)
      obtain ⟨_, node, expected⟩ := (answersOpen_iff tr t).1 c
      exact other.elim (fun h => h node) (fun h => h expected)
    · exact .inl (status unknown)
  · rw [taken, live_next, receiveSouth_hunt hunt, ite_self]

/-! ### The expiry of the reply window (R26, R45) -/

/-- R26: the state in which the miss of a transaction is delivered. -/
def State.afterWindow (s : State) (receiving : Bool) : State :=
  { s with
    lines := { s.lines with southRx := s.lines.southRx.noted receiving }
    scan := { s.scan with slot := none } }

theorem windowExpiry_of_begun {s : State} {tr : Transaction} (receiving : Bool)
    (slot : s.scan.slot = some tr) (begun : tr.windowBegun = true) :
    windowExpiry receiving s = deliverMiss tr (s.afterWindow receiving) := by
  rcases windowExpiry_cases receiving s with ⟨tr', slot', _, e⟩ | ⟨waits, _⟩
  · rw [slot, Option.some.injEq] at slot'
    rw [e, slot']
    rfl
  · rw [waits tr slot] at begun; cases begun

theorem windowExpiry_of_waiting {s : State} (receiving : Bool)
    (waits : ∀ tr, s.scan.slot = some tr → tr.windowBegun = false) : windowExpiry receiving s = s := by
  rcases windowExpiry_cases receiving s with ⟨tr, slot, begun, _⟩ | ⟨_, e⟩
  · rw [waits tr slot] at begun; cases begun
  · exact e

/-- R26, R97: the miss of a DRIVE STATUS reaches the fan that the node is classified to. -/
theorem deliverMiss_fan {s : State} {tr : Transaction} {f : Fin 16}
    (purpose : tr.purpose = .scanQuery ∨ tr.purpose = .fanDrive) (fan : classifyFan s.tables tr.node = some f) :
    deliverMiss tr s = takeFanMiss f s := by
  rcases purpose with h | h <;> simp only [deliverMiss, h, fan]

theorem deliverMiss_no_fan {s : State} {tr : Transaction}
    (purpose : tr.purpose = .scanQuery ∨ tr.purpose = .fanDrive) (fan : classifyFan s.tables tr.node = none) :
    deliverMiss tr s = s := by
  rcases purpose with h | h <;> simp only [deliverMiss, h, fan]

/-- Settles O39, by the purpose of the transaction that is missed. -/
theorem windowExpiryDeliversTheMiss : Obligations.WindowExpiryDeliversTheMiss := by
  intro s receiving held
  have taken : exec (.replyWindowExpiry receiving) s = .next (windowExpiry receiving s) :=
    exec_of_running _ held
  rw [taken]
  refine ⟨fun tr v slot begun after => ?_, fun waits => by rw [windowExpiry_of_waiting receiving waits]⟩
  replace after : v = s.afterWindow receiving := after
  rw [windowExpiry_of_begun receiving slot begun, ← after]
  have tables : v.tables = s.tables := by rw [after]; rfl
  refine ⟨fun poll => ⟨fun outside => ?_, fun k ch classified bound => ?_⟩,
    fun drive => ⟨fun outside => ?_, fun k f classified => ?_⟩, fun posted => ?_, fun kind confirmed => ?_⟩
  · simp only [deliverMiss, poll, tables, classifyChannel_of_unclassified outside]
  · simp only [deliverMiss, poll, tables, classifyChannel_of_classifies classified bound, takeChannelMiss]
    rw [after]
    rfl
  · rw [deliverMiss_no_fan drive (by rw [tables]; exact classifyFan_of_unclassified outside)]
  · rw [deliverMiss_fan drive (by rw [tables]; exact classifyFan_of_classifies classified)]
    simp only [takeFanMiss, tables, enabledRemote_iff, takeBad_eq_afterBad]
    rw [after]
    rfl
  · simp only [deliverMiss, posted]
  · simp only [deliverMiss, confirmed, respondRelay, respond_frame]
    rw [after]
    cases kind <;> rfl

end Sys2Proof.Machine
end

section
/-! The south arbiter and the south line. Settles FanDriveServesTheLowestFlaggedFan,
RelayTransactionServesTheHead, ScanTransactionServesTheDueEntry and SouthLineEventsTakeEffect. -/

namespace Sys2Proof.Machine

/-! ### The arbiter's choice (R28) -/

theorem southChoice_of_flagged {s : State} {f : Fin 16} (flagged : flaggedFan s = some f) :
    southChoice s = .fan f := by
  simp only [southChoice, flagged]

/-- R28: with no fan to serve the choice is between the relay queue and the scan. -/
theorem southChoice_of_unflagged {s : State} (unflagged : s.noFanFlagged) :
    southChoice s =
      if s.site.interleave ≤ s.scan.interleave ∧ s.relayQueue ≠ [] then relayOrNothing s.relayQueue
      else s.dueEntry.elim (relayOrNothing s.relayQueue) .scan := by
  simp only [southChoice, (flaggedFan_eq_none_iff s).2 unflagged]
  cases s.dueEntry <;> rfl

theorem relayOrNothing_ne_scan (queue : List RelayEntry) (i : Nat) : relayOrNothing queue ≠ .scan i := by
  cases queue <;> simp [relayOrNothing]

/-- R28 steps 2 and 4: the head of the relay queue is chosen when its turn has come or no entry is due. -/
theorem southChoice_relay {s : State} {e : RelayEntry} {rest : List RelayEntry} (unflagged : s.noFanFlagged)
    (queue : s.relayQueue = e :: rest) (turn : s.site.interleave ≤ s.scan.interleave ∨ s.scanDone) :
    southChoice s = .relay e := by
  rw [southChoice_of_unflagged unflagged, queue]
  rcases turn with reached | done
  · rw [if_pos ⟨reached, List.cons_ne_nil _ _⟩, relayOrNothing]
  · rw [(dueEntry_eq_none_iff s).2 done]
    exact ite_self _

/-- R28 step 3: the due entry is chosen when no relay goes first. -/
theorem southChoice_scan {s : State} {i : Nat} (unflagged : s.noFanFlagged)
    (turn : s.scan.interleave < s.site.interleave ∨ s.relayQueue = []) (due : s.dueEntry = some i) :
    southChoice s = .scan i := by
  have later : ¬ (s.site.interleave ≤ s.scan.interleave ∧ s.relayQueue ≠ []) := fun ⟨reached, waits⟩ =>
    turn.elim (Nat.not_lt.2 reached) waits
  rw [southChoice_of_unflagged unflagged, if_neg later, due, Option.elim_some]

/-- R28: with no interleave turn, an entry that is due keeps the relay queue waiting. -/
theorem southChoice_ne_relay_of_due {s : State} {pos i : Nat}
    (turn : s.scan.interleave < s.site.interleave) (position : s.scan.scanPos = some pos) (from_ : pos ≤ i)
    (due : s.isDue i) (e : RelayEntry) : southChoice s ≠ .relay e := by
  by_cases unflagged : s.noFanFlagged
  · cases entry : s.dueEntry with
    | some j =>
      rw [southChoice_scan unflagged (.inl turn) entry]
      simp
    | none =>
      exact absurd due ((dueEntry_eq_none_iff s).1 entry pos position i from_
        (Nat.lt_of_lt_of_le due.1 (scanListLength_le s.tables)))
  · obtain ⟨f, flagged⟩ := Option.ne_none_iff_exists'.1 (mt (flaggedFan_eq_none_iff s).1 unflagged)
    rw [southChoice_of_flagged flagged]
    simp

theorem southChoice_ne_relay_of_empty {s : State} (empty : s.relayQueue = []) (e : RelayEntry) :
    southChoice s ≠ .relay e := by
  unfold southChoice
  rw [empty]
  cases flaggedFan s <;> cases s.dueEntry <;> simp [relayOrNothing]

/-- R28: a relay whose turn has come keeps the scan waiting. -/
theorem southChoice_ne_scan_of_relay {s : State} (reached : s.site.interleave ≤ s.scan.interleave)
    (waits : s.relayQueue ≠ []) (i : Nat) : southChoice s ≠ .scan i := by
  unfold southChoice
  cases flaggedFan s with
  | some f => simp
  | none =>
    simp only
    rw [if_pos ⟨reached, waits⟩]
    exact relayOrNothing_ne_scan _ _

theorem southChoice_ne_scan_of_done {s : State} (done : s.scanDone) (i : Nat) :
    southChoice s ≠ .scan i := by
  unfold southChoice
  rw [(dueEntry_eq_none_iff s).2 done]
  cases flaggedFan s with
  | some f => simp
  | none =>
    simp only [ite_self]
    exact relayOrNothing_ne_scan _ _

@[simp] theorem strayFlagsCleared_tables (s : State) : s.strayFlagsCleared.tables = s.tables := rfl

/-! ### The commands of the arbiter (R29, R30, R32) -/

theorem relayStep_of_choice {s : State} {e : RelayEntry} (free : s.southLoopFree)
    (choice : southChoice s = .relay e) : relayStep s = openRelay e s.strayFlagsCleared := by
  rcases relayStep_cases s with ⟨_, e', choice', opened⟩ | ⟨busy | other, _⟩
  · obtain rfl : e = e' := by simpa [choice] using choice'
    rw [opened, clearStrayFlags_eq]
  · rw [((southLoopFree_iff s).1 free).2] at busy; cases busy
  · exact absurd choice (other e)

theorem relayStep_of_other {s : State} (other : ∀ e, southChoice s ≠ .relay e) : relayStep s = s := by
  rcases relayStep_cases s with ⟨_, e, choice, _⟩ | ⟨_, kept⟩
  · exact absurd choice (other e)
  · exact kept

theorem scanStep_of_choice {s : State} {i : Nat} (free : s.southLoopFree)
    (choice : southChoice s = .scan i) : scanStep s = openScan i s.strayFlagsCleared := by
  rcases scanStep_cases s with ⟨_, i', choice', opened⟩ | ⟨busy | other, _⟩
  · obtain rfl : i = i' := by simpa [choice] using choice'
    rw [opened, clearStrayFlags_eq]
  · rw [((southLoopFree_iff s).1 free).2] at busy; cases busy
  · exact absurd choice (other i)

theorem scanStep_of_other {s : State} (other : ∀ i, southChoice s ≠ .scan i) : scanStep s = s := by
  rcases scanStep_cases s with ⟨_, i, choice, _⟩ | ⟨_, kept⟩
  · exact absurd choice (other i)
  · exact kept

theorem fanDriveStep_of_flagged {s : State} {f : Fin 16} (free : s.southLoopFree)
    (flagged : flaggedFan s = some f) : fanDriveStep s = openFanDrive f s.strayFlagsCleared := by
  rcases fanDriveStep_cases s with ⟨_, f', flagged', opened⟩ | ⟨_, none_, _⟩ | ⟨busy, _⟩
  · obtain rfl : f = f' := by simpa [flagged] using flagged'
    rw [opened, clearStrayFlags_eq]
  · rw [none_] at flagged; cases flagged
  · rw [((southLoopFree_iff s).1 free).2] at busy; cases busy

theorem fanDriveStep_of_unflagged {s : State} (free : s.southLoopFree) (unflagged : s.noFanFlagged) :
    fanDriveStep s = s.strayFlagsCleared := by
  rcases fanDriveStep_cases s with ⟨_, f, flagged, _⟩ | ⟨_, _, cleared⟩ | ⟨busy, _⟩
  · rw [(flaggedFan_eq_none_iff s).2 unflagged] at flagged; cases flagged
  · rw [cleared, clearStrayFlags_eq]
  · rw [((southLoopFree_iff s).1 free).2] at busy; cases busy

/-- R29, R111: a FAN DRIVE, with the telegram and the fan's record written out. -/
theorem openFanDrive_strayFlagsCleared {s : State} {f : Fin 16}
    (remote : (fanOf s.tables f).enable = true ∧ (fanOf s.tables f).remote = true) :
    openFanDrive f s.strayFlagsCleared = { s with
      lines := { s.lines with
        southTx := some { dest := (fanOf s.tables f).node, source := 0#8, kind := .driveSet,
                          payload := [BitVec.ofNat 8 s.alloc.fans[f].commanded] }
        southRx := .hunt }
      scan := { s.scan with
        slot := some { node := (fanOf s.tables f).node, purpose := .fanDrive,
                       windowMs := s.site.pollTimeout, windowBegun := false } }
      alloc := { s.alloc with
        fans := s.strayFlagsCleared.alloc.fans.set f
          { s.alloc.fans[f] with
            flag := false, lastSent := some s.alloc.fans[f].commanded, sinceSent := 0 } } } := by
  simp only [openFanDrive, strayFlagsCleared_fan remote]
  simp only [← clearStrayFlags_eq, clearStrayFlags_tables, clearStrayFlags_site]
  have inhibit : (clearStrayFlags s).alloc.inhibit = s.alloc.inhibit := rfl
  apply State.ext <;> simp [southTelegram, u8, FanRec.sent, inhibit]

/-- Settles O40: the fan that the arbiter finds is the lowest, and its record is the one it had. -/
theorem fanDriveServesTheLowestFlaggedFan : Obligations.FanDriveServesTheLowestFlaggedFan := by
  intro s free
  have taken : exec .fanDrive s = .next (fanDriveStep s) := exec_of_running _ free.1
  refine ⟨fun f flag remote lowest => ?_, fun unflagged => ?_⟩
  · rw [taken, fanDriveStep_of_flagged free (flaggedFan_eq_some_of_lowest flag remote lowest),
      openFanDrive_strayFlagsCleared remote]
  · rw [taken, fanDriveStep_of_unflagged free unflagged]

/-- R30: the relay of an entry, with the telegram written out. -/
theorem openRelay_strayFlagsCleared (e : RelayEntry) (s : State) :
    openRelay e s.strayFlagsCleared = { s.strayFlagsCleared with
      lines := { s.lines with
        southTx := some { dest := e.node, source := 0#8,
                          kind := if e.kind = .command then .command else .driveSet,
                          payload := e.payload }
        southRx := .hunt }
      scan := { s.scan with
        interleave := 0
        slot := some { node := e.node,
                       purpose := if e.mode = .posted then .relayPosted else .relayConfirmed e.kind,
                       windowMs := s.site.relayTimeout, windowBegun := false } }
      relayQueue := s.relayQueue.tail } := by
  obtain ⟨node, kind, payload, mode⟩ := e
  cases kind <;> cases mode <;> rfl

/-- Settles O41, by the arbiter's choice in each case. -/
theorem relayTransactionServesTheHead : Obligations.RelayTransactionServesTheHead := by
  intro s free
  have relay : exec .relayTransaction s = .next (relayStep s) := exec_of_running _ free.1
  have scan : exec .scanTransaction s = .next (scanStep s) := exec_of_running _ free.1
  rw [relay, scan]
  refine ⟨fun e rest unflagged queue turn => ?_, fun pos i turn position from_ due => ?_, fun empty => ?_,
    fun flagged => ?_⟩
  · rw [relayStep_of_choice free (southChoice_relay unflagged queue turn), openRelay_strayFlagsCleared, queue,
      List.tail_cons]
  · rw [relayStep_of_other (southChoice_ne_relay_of_due turn position from_ due)]
  · rw [relayStep_of_other (southChoice_ne_relay_of_empty empty)]
  · obtain ⟨f, found⟩ := Option.ne_none_iff_exists'.1 (mt (flaggedFan_eq_none_iff s).1 flagged)
    have choice := southChoice_of_flagged found
    rw [relayStep_of_other (by simp [choice]), scanStep_of_other (by simp [choice])]
    exact ⟨rfl, rfl⟩

/-- R31, R32: the request of a due entry, with the telegram written out. -/
theorem openScan_strayFlagsCleared (i : Nat) (s : State) :
    openScan i s.strayFlagsCleared = { s.strayFlagsCleared with
      lines := { s.lines with
        southTx := some { dest := (scanOf s.tables i).node, source := 0#8,
                          kind := if (scanOf s.tables i).request = 0x11#8 then .poll else .driveQuery,
                          payload := [] }
        southRx := .hunt }
      scan := { s.scan with
        interleave := if s.scan.interleave < 16 then s.scan.interleave + 1 else 16
        scanPos := some (i + 1)
        slot := some { node := (scanOf s.tables i).node,
                       purpose :=
                         if (scanOf s.tables i).request = 0x11#8 then .scanPoll else .scanQuery,
                       windowMs := s.site.pollTimeout, windowBegun := false } } } := by
  have count : min (s.scan.interleave + 1) 16 = if s.scan.interleave < 16 then s.scan.interleave + 1 else 16 := by
    split <;> omega
  have poll : ((scanOf s.tables i).request == kindCode .poll) = decide ((scanOf s.tables i).request = 0x11#8) :=
    rfl
  rw [← count]
  unfold openScan
  simp only [strayFlagsCleared_tables, poll, decide_eq_true_eq]
  rfl

/-- Settles O42, by the arbiter's choice in each case. -/
theorem scanTransactionServesTheDueEntry : Obligations.ScanTransactionServesTheDueEntry := by
  intro s free
  have taken : exec .scanTransaction s = .next (scanStep s) := exec_of_running _ free.1
  rw [taken]
  refine ⟨fun pos i unflagged turn position from_ due first => ?_, fun reached waits => ?_, fun done => ?_⟩
  · rw [scanStep_of_choice free
      (southChoice_scan unflagged turn (dueEntry_eq_some_of_first position from_ due first)),
      openScan_strayFlagsCleared]
  · rw [scanStep_of_other (southChoice_ne_scan_of_relay reached waits)]
  · rw [scanStep_of_other (southChoice_ne_scan_of_done done)]

/-- Settles O43, by the cases of the two commands. -/
theorem southLineEventsTakeEffect : Obligations.SouthLineEventsTakeEffect := by
  intro s held
  have sent : exec .southTransmissionEnd s = .next (southSent s) := exec_of_running _ held
  have rate : exec .southRateChange s = .next (southRateStep s) := exec_of_running _ held
  rw [sent, rate]
  refine ⟨fun t tr tx slot => ?_, fun r pending => ⟨fun slot tx rx => ?_, fun busy => ?_⟩⟩
  · rcases southSent_cases s with ⟨_, ended⟩ | ⟨none_, _⟩
    · rw [ended, slot]
      rfl
    · rw [none_] at tx; cases tx
  · rcases southRateStep_cases s with ⟨r', pending', _, applied⟩ | ⟨none_ | busy, _⟩
    · obtain rfl : r = r' := by simpa [pending] using pending'
      rw [applied]
    · rw [none_] at pending; cases pending
    · exact absurd ⟨slot, tx, rx⟩ busy
  · rcases southRateStep_cases s with ⟨_, _, ⟨slot, tx, rx⟩, _⟩ | ⟨_, kept⟩
    · exact absurd busy (by simp [slot, tx, rx])
    · rw [kept]

end Sys2Proof.Machine
end

section
/-! The north transmitter. Settles NorthChoiceSendsTheOldestOrNextItem and
NorthTransmissionEndTakesEffect. -/

namespace Sys2Proof.Machine

/-! ### The next notice (R144) -/

theorem mem_flaggedSources {s : State} {i : Fin 77} :
    i ∈ flaggedSources s ↔ s.alarm.sources[i].notice = true := by
  simp [flaggedSources]

/-- A search through an ordered list finds its lowest element that qualifies. -/
theorem find?_eq_some_of_lowest {l : List (Fin 77)} (ordered : l.Pairwise (· < ·)) {p : Fin 77 → Bool}
    {i : Fin 77} (mem : i ∈ l) (holds : p i = true) (lowest : ∀ j ∈ l, p j = true → i ≤ j) :
    l.find? p = some i := by
  obtain ⟨j, found⟩ := Option.isSome_iff_exists.1 (List.find?_isSome.2 ⟨i, mem, holds⟩)
  obtain ⟨holds', as, bs, rfl, before⟩ := List.find?_eq_some_iff_append.1 found
  have le := lowest j (by simp) holds'
  rw [found]
  rcases List.mem_append.1 mem with h | h
  · have := before i h
    simp [holds] at this
  · rcases List.mem_cons.1 h with rfl | h
    · rfl
    · have lt := (List.pairwise_cons.1 (List.pairwise_append.1 ordered).2.1).1 i h
      exact absurd lt (not_lt.2 le)

/-- R144: of a level, the notice of lowest index is found. -/
theorem find?_flaggedSources {s : State} {i : Fin 77} {l : Nat} (flag : s.alarm.sources[i].notice = true)
    (level : s.policy.level i = l)
    (lowest : ∀ j : Fin 77, s.alarm.sources[j].notice = true → s.policy.level j = l → i ≤ j) :
    (flaggedSources s).find? (fun i => s.policy.level i == l) = some i :=
  find?_eq_some_of_lowest ((List.pairwise_lt_finRange 77).filter _) (mem_flaggedSources.2 flag)
    (beq_iff_eq.2 level) fun j mem same => lowest j (mem_flaggedSources.1 mem) (beq_iff_eq.1 same)

theorem immediateSource_isSome (s : State) : (immediateSource s).isSome = true ↔ s.immediatePending := by
  unfold immediateSource State.immediatePending
  cases s.policy.immediate with
  | none => simp
  | some l =>
    rw [List.find?_isSome]
    exact exists_congr fun i => by rw [mem_flaggedSources, beq_iff_eq, Option.some.injEq, eq_comm (a := l)]

/-- R144: the immediate notice goes first. -/
theorem immediateSource_of_pending {s : State} {i : Fin 77} (pending : s.immediatePending)
    (next : s.isNextNotice i) : immediateSource s = some i := by
  obtain ⟨flag, first, -⟩ := next
  obtain ⟨level, lowest⟩ := first pending
  unfold immediateSource
  rw [level]
  exact find?_flaggedSources flag rfl fun j flag' same => lowest j flag' (by rw [level, same])

/-- R144: without one the levels are searched in order. -/
theorem findSome?_order_of_next {s : State} {i : Fin 77} (pending : ¬ s.immediatePending)
    (next : s.isNextNotice i) :
    (s.policy.order.findSome? fun l => (flaggedSources s).find? fun i => s.policy.level i == l) = some i := by
  obtain ⟨flag, -, ordered⟩ := next
  obtain ⟨mem, first⟩ := ordered pending
  obtain ⟨as, bs, order, earlier⟩ := List.eq_append_cons_of_mem mem
  have found := find?_flaggedSources flag rfl fun j flag' same => (first j flag').2 same.symm
  have none_ : (as.findSome? fun l => (flaggedSources s).find? fun i => s.policy.level i == l) = none := by
    rw [List.findSome?_eq_none_iff]
    intro l hl
    rw [List.find?_eq_none]
    intro j flag' level
    rw [beq_iff_eq] at level
    have place := (first j (mem_flaggedSources.1 flag')).1
    rw [order, List.idxOf_append_of_notMem earlier, level, List.idxOf_append_of_mem hl] at place
    have := List.idxOf_lt_length_of_mem hl
    omega
  rw [order, List.findSome?_append, none_, Option.none_or, List.findSome?_cons, found]

theorem nextNotice_of_next {s : State} {i : Fin 77} (next : s.isNextNotice i) : nextNotice s = some i := by
  unfold nextNotice
  by_cases pending : s.immediatePending
  · rw [immediateSource_of_pending pending next]
  · have none_ : immediateSource s = none :=
      Option.not_isSome_iff_eq_none.1 (mt (immediateSource_isSome s).1 pending)
    rw [none_, findSome?_order_of_next pending next]

/-! ### The class chosen (R155, R157) -/

theorem classWaits_iff (s : State) (c : NorthClass) : classWaits s c = true ↔ s.waits c := by
  cases c with
  | alert =>
    simp only [classWaits, State.waits, Bool.not_eq_true', List.isEmpty_eq_false_iff_exists_mem,
      mem_flaggedSources]
  | response => simp [classWaits, State.waits]
  | report => simp [classWaits, State.waits]

theorem effectiveRank_eq (s : State) (c : NorthClass) : effectiveRank s c = s.rank c := by
  unfold effectiveRank baseRank BankManager.activeBank
  cases active : s.banks.active with
  | none => cases c <;> simp [State.rank, active, Credits.of]
  | some k =>
    cases c <;>
      simp [State.rank, active, Credits.of, State.site, State.tables, BankManager.activeBank]

theorem mem_of_lowestRank {s : State} {l : List NorthClass} {c : NorthClass} (h : lowestRank s l = some c) :
    c ∈ l := by
  induction l generalizing c with
  | nil => cases h
  | cons x xs ih =>
    simp only [lowestRank] at h
    cases rest : lowestRank s xs with
    | none =>
      rw [rest, Option.some.injEq] at h
      exact h ▸ List.mem_cons_self
    | some d =>
      rw [rest] at h
      simp only at h
      split at h <;> rw [Option.some.injEq] at h <;> subst h
      · exact List.mem_cons_self
      · exact List.mem_cons_of_mem _ (ih rest)

/-- R157: of a list in tie order, the class of lowest rank, the earlier of two equal ones, is found. -/
theorem lowestRank_eq_some {s : State} {l : List NorthClass} (ordered : l.Pairwise (·.tie < ·.tie))
    {c : NorthClass} (mem : c ∈ l)
    (lowest : ∀ d ∈ l, s.rank c ≤ s.rank d ∧ (s.rank c = s.rank d → c.tie ≤ d.tie)) :
    lowestRank s l = some c := by
  induction l with
  | nil => cases mem
  | cons x xs ih =>
    obtain ⟨before, ordered⟩ := List.pairwise_cons.1 ordered
    simp only [lowestRank, effectiveRank_eq]
    rcases List.mem_cons.1 mem with rfl | mem
    · cases rest : lowestRank s xs with
      | none => rfl
      | some d => exact if_pos (lowest d (List.mem_cons_of_mem _ (mem_of_lowestRank rest))).1
    · rw [ih ordered mem fun d hd => lowest d (List.mem_cons_of_mem _ hd)]
      obtain ⟨le, tie⟩ := lowest x List.mem_cons_self
      refine if_neg fun ge => ?_
      have := tie (le_antisymm le ge)
      have := before c mem
      omega

/-- R157: the class that the arbiter gives the transmitter to. -/
theorem northClass_of_chooses {s : State} {c : NorthClass} (chosen : s.chooses c) :
    northClass s = some c := by
  unfold northClass
  rcases chosen with ⟨pending, rfl⟩ | ⟨pending, waits, lowest⟩
  · rw [if_pos ((immediateSource_isSome s).2 pending)]
  · rw [if_neg (mt (immediateSource_isSome s).1 pending)]
    have ordered : tieOrder.Pairwise (·.tie < ·.tie) := by decide
    have all : ∀ d : NorthClass, d ∈ tieOrder := by intro d; cases d <;> decide
    refine lowestRank_eq_some (ordered.filter _)
      (List.mem_filter.2 ⟨all c, (classWaits_iff s c).2 waits⟩) fun d hd => ?_
    exact lowest d ((classWaits_iff s d).1 (List.mem_filter.1 hd).2)

theorem northFree_iff (s : State) : northFree s = true ↔ s.lines.northTx = .ready ∧ s.lines.northHold = false := by
  simp [northFree]

/-- R157: a choice of a free transmitter serves the class chosen. -/
theorem exec_northChoice_of_chooses {s : State} {c : NorthClass} (free : s.northFreeNow)
    (chosen : s.chooses c) : exec .northChoice s = .next (serveClass c (updateCredits c s)) := by
  obtain ⟨held, idle⟩ := free
  have taken : exec .northChoice s = .next (northChoiceStep s) := exec_of_running _ held
  rw [taken]
  rcases northChoiceStep_cases s with ⟨_, c', class', e⟩ | ⟨busy | none_, _⟩
  · obtain rfl : c = c' := by simpa [northClass_of_chooses chosen] using class'
    rw [e]
  · rw [(northFree_iff s).2 idle] at busy; cases busy
  · rw [northClass_of_chooses chosen] at none_; cases none_

/-! ### The telegrams (R14, R145) -/

theorem alertPayload_eq (i : Fin 77) (s : State) :
    alertPayload i s =
      [BitVec.ofNat 8 i.val,
        if i.val < 72 then BitVec.ofNat 8 (i.val / 9) else 255#8,
        if i.val < 72 then BitVec.ofNat 8 (i.val % 9) else BitVec.ofNat 8 (i.val - 63),
        BitVec.ofNat 8 (s.policy.level i),
        match s.alarm.sources[i].state with
          | .normal => 0#8 | .raised => 1#8 | .acked => 2#8 | .returned => 3#8,
        match s.policy.cls i with | .selfClearing => 0#8 | .latching => 1#8,
        BitVec.ofNat 8 (s.scan.cycle / 256), BitVec.ofNat 8 s.scan.cycle] := by
  have zone : BitVec.ofNat 8 (alertZone i) = if i.val < 72 then BitVec.ofNat 8 (i.val / 9) else 255#8 :=
    apply_ite (BitVec.ofNat 8) _ _ _
  have kind : BitVec.ofNat 8 (kindOfSource i) =
      if i.val < 72 then BitVec.ofNat 8 (i.val % 9) else BitVec.ofNat 8 (i.val - 63) :=
    apply_ite (BitVec.ofNat 8) _ _ _
  simp only [alertPayload, u8, u16, List.cons_append, List.nil_append, zone, kind]
  cases s.alarm.sources[i].state <;> cases s.policy.cls i <;> rfl

theorem reportBytes_eq (r : Report) :
    reportBytes r =
      [BitVec.ofNat 8 r.channel.val,
        match r.kind with | .none => 0#8 | .gas => 1#8 | .spill => 2#8 | .current => 3#8,
        BitVec.ofNat 8 (r.value / 256), BitVec.ofNat 8 r.value,
        match r.health with
          | .unknown => 0#8 | .healthy => 1#8 | .suspect => 2#8 | .failed => 3#8,
        BitVec.ofNat 8 (r.cycle / 256), BitVec.ofNat 8 r.cycle] := by
  unfold reportBytes
  cases r.kind <;> cases r.health <;> rfl

/-- R145: the ALERT of the next notice. -/
theorem serveClass_alert {s : State} {i : Fin 77} (next : nextNotice s = some i) :
    serveClass .alert s =
      clearNotice i (startNorth (northTelegram s.address .alert (alertPayload i s)) .plain s) := by
  simp only [serveClass, sendAlert, next]

theorem serveClass_response {s : State} {r : Response} {rest : List Response} (built : s.north.built = r :: rest) :
    serveClass .response s =
      startNorth (responseTelegram r) r.mark { s with north := { s.north with built := rest } } := by
  simp only [serveClass, sendResponse, built]

theorem serveClass_report {s : State} {r : Report} {rest : List Report} (reports : s.north.reports = r :: rest) :
    serveClass .report s =
      startNorth (northTelegram s.address .report (reportBytes r)) .plain
        { s with north := { s.north with reports := rest } } := by
  simp only [serveClass, sendReport, reports]

/-- Settles O53, by the class chosen. -/
theorem northChoiceSendsTheOldestOrNextItem : Obligations.NorthChoiceSendsTheOldestOrNextItem := by
  intro s free
  refine ⟨fun i chosen next => ⟨_, exec_northChoice_of_chooses free chosen, ?_⟩,
    fun r rest chosen built => ⟨_, exec_northChoice_of_chooses free chosen, ?_⟩,
    fun r rest chosen reports => ⟨_, exec_northChoice_of_chooses free chosen, ?_⟩⟩
  · have notice : nextNotice (updateCredits .alert s) = some i := nextNotice_of_next next
    rw [serveClass_alert notice, alertPayload_eq]
    rfl
  · rw [serveClass_response (s := updateCredits .response s) built]
    rfl
  · rw [serveClass_report (s := updateCredits .report s) reports, reportBytes_eq]
    rfl

/-! ### The end of a transmission (R2, R189) -/

theorem northSent_of_sending {s : State} {tel : Telegram} {mark : ReplyMark} (receiving : Bool)
    (tx : s.lines.northTx = .sending tel mark) :
    northSent receiving s = markEffect mark { s with lines := { s.lines with
      northTx := .settling, northRx := s.lines.northRx.noted receiving } } := by
  rcases northSent_cases receiving s with ⟨tel', mark', tx', e⟩ | ⟨other, _⟩
  · rw [tx] at tx'
    cases tx'
    exact e
  · exact absurd tx (other tel mark)

/-- R2: the rate applies at once when no reception is under way. -/
theorem endOldRate_of_idle {l : Lines} {r : BitRate} (pending : l.northPending = .awaitingResponse r)
    (idle : l.northRx ≠ .receiving) : endOldRate l = { l with northRate := r, northPending := .none } := by
  simp only [endOldRate, pending, idle, if_false]

theorem endOldRate_of_receiving {l : Lines} {r : BitRate} (pending : l.northPending = .awaitingResponse r)
    (busy : l.northRx = .receiving) :
    endOldRate l = { l with northPending := .awaitingReception r, northHold := true } := by
  simp only [endOldRate, pending, busy, if_true]

/-- Settles O54, by the mark of the telegram that has gone. -/
theorem northTransmissionEndTakesEffect : Obligations.NorthTransmissionEndTakesEffect := by
  intro s receiving tel mark l held tx lines
  have taken : exec (.northTransmissionEnd receiving) s = .next (markEffect mark { s with lines := l }) := by
    have e : exec (.northTransmissionEnd receiving) s = .next (northSent receiving s) := exec_of_running _ held
    rw [e, northSent_of_sending receiving tx, lines]
    rfl
  rw [taken]
  refine ⟨fun plain => by rw [plain, markEffect], fun done => by rw [done, markEffect],
    fun r ends pending => ⟨fun idle => ?_, fun busy => ?_⟩⟩
  · rw [ends, markEffect, endOldRate_of_idle (by rw [lines]; exact pending) idle]
  · rw [ends, markEffect, endOldRate_of_receiving (by rw [lines]; exact pending) busy]

end Sys2Proof.Machine
end

section
/-! Idle lines, abandoned and discarded telegrams. Settles LineEventsMoveTheReceivers. -/

namespace Sys2Proof.Machine

/-! ### The characters of a telegram (R3 to R6, R9) -/

/-- The characters a CRC covers, of a telegram with any kind code (R5). -/
def coveredChars (dest source code : Byte) (payload : List Byte) : List Byte :=
  [dest, source, code, BitVec.ofNat 8 payload.length] ++ payload

theorem covered_eq_coveredChars (t : Telegram) :
    t.covered = coveredChars t.dest t.source (kindCode t.kind) t.payload := rfl

theorem length_coveredChars (dest source code : Byte) (payload : List Byte) :
    (coveredChars dest source code payload).length = payload.length + 4 := by
  simp [coveredChars]

/-- R4: the length character of a payload of at most 48 characters tells its length. -/
theorem toNat_length {payload : List Byte} (short : payload.length ≤ 48) :
    (BitVec.ofNat 8 payload.length).toNat = payload.length := by
  rw [BitVec.toNat_ofNat]
  omega

/-- R3, R4: the flag, the covered characters and two CRC characters are a complete telegram. -/
theorem frameComplete_coveredChars {dest source code : Byte} {payload crc : List Byte}
    (short : payload.length ≤ 48) (two : crc.length = 2) :
    frameComplete ([0xC3#8] ++ coveredChars dest source code payload ++ crc) = true := by
  have flag : ([0xC3#8] ++ coveredChars dest source code payload ++ crc)[0]? = some 0xC3#8 := rfl
  have length : ([0xC3#8] ++ coveredChars dest source code payload ++ crc)[4]? =
      some (BitVec.ofNat 8 payload.length) := rfl
  simp only [frameComplete, flag, length, toNat_length short, decide_eq_true_eq, true_and]
  refine ⟨short, ?_⟩
  simp only [List.length_append, length_coveredChars, two, List.length_singleton]
  omega

/-- R5: the CRC check compares the last two characters with the CRC of the covered ones. -/
theorem frameCrcOk_eq {covered crc : List Byte} (two : crc.length = 2) :
    frameCrcOk ([0xC3#8] ++ covered ++ crc) = decide (crc = u16 (crc16 covered).toNat) := by
  have length : ([0xC3#8] ++ covered ++ crc).length = covered.length + 3 := by
    simp only [List.length_append, two, List.length_singleton]
    omega
  have last : ([0xC3#8] ++ covered ++ crc).drop (covered.length + 3 - 2) = crc :=
    List.drop_left' (by simp)
  have inner : (([0xC3#8] ++ covered ++ crc).drop 1).take (covered.length + 3 - 3) = covered := by
    simp
  simp only [frameCrcOk, length, last, inner]

/-- R9: the telegram in the characters, when its kind code is known. -/
theorem frameTelegram_coveredChars {dest source code : Byte} {payload crc : List Byte}
    (short : payload.length ≤ 48) :
    frameTelegram ([0xC3#8] ++ coveredChars dest source code payload ++ crc) =
      (kindOfCode code).map fun kind => { dest, source, kind, payload } := by
  simp [frameTelegram, coveredChars, Nat.mod_eq_of_lt (Nat.lt_of_le_of_lt short (by decide : 48 < 256))]

theorem kindOfCode_kindCode (k : TelegramKind) : kindOfCode (kindCode k) = some k := by
  cases k <;> rfl

theorem kindOfCode_eq_none {code : Byte} (unknown : ∀ k, kindCode k ≠ code) : kindOfCode code = none := by
  rw [kindOfCode, List.find?_eq_none]
  exact fun k _ h => unknown k (beq_iff_eq.1 h)

theorem length_u16 (n : Nat) : (u16 n).length = 2 := rfl

/-- R194: two bytes carry a CRC whole. -/
theorem u16_toNat_injective {a c : Crc} (h : u16 a.toNat = u16 c.toNat) : a = c := by
  simp only [u16, List.cons.injEq, and_true] at h
  bv_omega

/-! ### Telegrams that are discarded whole (R6, R9, R10, R12) -/

theorem isDiscarded_of_crc {t : Telegram} {crc : Crc} (short : t.payload.length ≤ 48)
    (bad : crc ≠ crc16 t.covered) (line : Line) (s : State) :
    isDiscarded line ([0xC3#8] ++ t.covered ++ u16 crc.toNat) s = true := by
  have wrong : frameCrcOk ([0xC3#8] ++ t.covered ++ u16 crc.toNat) = false := by
    rw [frameCrcOk_eq (length_u16 _)]
    exact decide_eq_false fun h => bad (u16_toNat_injective h)
  rw [isDiscarded, wrong, covered_eq_coveredChars, frameComplete_coveredChars short (length_u16 _)]
  rfl

theorem isDiscarded_of_unknown {dest source code : Byte} {payload : List Byte} (short : payload.length ≤ 48)
    (unknown : ∀ k, kindCode k ≠ code) (crc : Crc) (line : Line) (s : State) :
    isDiscarded line ([0xC3#8] ++ coveredChars dest source code payload ++ u16 crc.toNat) s = true := by
  rw [isDiscarded, frameComplete_coveredChars short (length_u16 _), frameTelegram_coveredChars short,
    kindOfCode_eq_none unknown]
  simp

/-- A telegram as it is sent is complete, has a good CRC and is read as itself. -/
theorem frame_read {t : Telegram} (short : t.payload.length ≤ 48) :
    frameComplete t.frame = true ∧ frameCrcOk t.frame = true ∧ frameTelegram t.frame = some t := by
  refine ⟨frameComplete_coveredChars short (length_u16 _), ?_, ?_⟩
  · rw [Telegram.frame, frameCrcOk_eq (length_u16 _)]
    exact decide_eq_true rfl
  · rw [Telegram.frame, covered_eq_coveredChars, frameTelegram_coveredChars short, kindOfCode_kindCode]
    rfl

theorem isDiscarded_of_unfit {t : Telegram} {line : Line} (short : t.payload.length ≤ 48)
    (unfit : passesR9 line t = false) (s : State) : isDiscarded line t.frame s = true := by
  obtain ⟨complete, crc, read⟩ := frame_read short
  simp only [isDiscarded, complete, crc, read, unfit, Bool.not_false, Bool.true_or, Bool.or_true, Bool.and_true]

theorem isDiscarded_of_other_traffic {t : Telegram} {s : State} (short : t.payload.length ≤ 48)
    (other : isSupervisorTraffic s.address t = false) : isDiscarded .north t.frame s = true := by
  obtain ⟨complete, crc, read⟩ := frame_read short
  simp only [isDiscarded, complete, crc, read, other, Bool.not_false, Bool.or_true, Bool.and_true]

theorem isDiscarded_of_unmatched {t : Telegram} {s : State} (short : t.payload.length ≤ 48)
    (unmatched : answersOpen s.scan.slot t = false) : isDiscarded .south t.frame s = true := by
  obtain ⟨complete, crc, read⟩ := frame_read short
  simp only [isDiscarded, complete, crc, read, unmatched, Bool.not_false, Bool.or_true, Bool.and_true]

/-- R12: traffic that is not the supervisor's, or is for no node the part answers for. -/
theorem isSupervisorTraffic_eq_false {address : Byte} {t : Telegram}
    (other : t.source ≠ 0#8 ∨ (t.dest ≠ address ∧ (t.dest.toNat = 0 ∨ 247 < t.dest.toNat))) :
    isSupervisorTraffic address t = false := by
  rw [isSupervisorTraffic, Bool.and_eq_false_iff]
  refine other.imp (fun source => beq_eq_false_iff_ne.2 source) fun ⟨dest, outside⟩ => ?_
  rw [Bool.or_eq_false_iff]
  refine ⟨beq_eq_false_iff_ne.2 dest, ?_⟩
  simp only [isNode, decide_eq_false_iff_not]
  omega

theorem answersOpen_eq_false {slot : Option Transaction} {t : Telegram}
    (other : slot = none ∨ t.dest ≠ 0#8 ∨
      ∃ tr, slot = some tr ∧ (t.source ≠ tr.node ∨ t.kind ≠ tr.purpose.expects)) :
    answersOpen slot t = false := by
  cases slot with
  | none => rfl
  | some tr =>
    refine Bool.eq_false_iff.2 fun answers => ?_
    obtain ⟨dest, source, kind⟩ := (answersOpen_iff tr t).1 answers
    rcases other with none_ | other | ⟨tr', same, other⟩
    · cases none_
    · exact other dest
    · cases same
      exact other.elim (· source) (· kind)

/-! ### The events of a line (R3, R4, R6, R7) -/

theorem receiverIdle_of_receiving {line : Line} {receiving : Bool} {s : State} (arm : State → State)
    (rx : (s.lines.rx line).noted receiving = .receiving) :
    receiverIdle line receiving arm s = endReception line s := by
  rw [receiverIdle, beginReception_eq_noted, rx]

theorem receiverIdle_of_armed {line : Line} {receiving : Bool} {s : State} (arm : State → State)
    (rx : (s.lines.rx line).noted receiving = .armed) : receiverIdle line receiving arm s = s := by
  rw [receiverIdle, beginReception_eq_noted, rx]

theorem receiverIdle_of_hunt {line : Line} {receiving : Bool} {s : State} (arm : State → State)
    (rx : (s.lines.rx line).noted receiving = .hunt) : receiverIdle line receiving arm s = arm s := by
  rw [receiverIdle, beginReception_eq_noted, rx]

/-- A receiver that a command finds ARMED was ARMED. -/
theorem armed_of_noted {receiving : Bool} {rx : RxState} (h : rx.noted receiving = .armed) : rx = .armed := by
  revert h
  cases receiving <;> cases rx <;> decide

theorem abandonStep_of_abandons {line : Line} {cause : AbandonCause} {s : State}
    (h : abandons cause (s.lines.rx line) = true) : abandonStep line cause s = endReception line s := by
  rw [abandonStep, if_pos h]

theorem abandonStep_of_hunt {line : Line} {s : State} (hunt : s.lines.rx line = .hunt) (cause : AbandonCause) :
    abandonStep line cause s = s := by
  rcases abandonStep_cases line cause s with ⟨h, _⟩ | ⟨_, kept⟩
  · exact absurd hunt (rx_ne_hunt_of_abandons h)
  · exact kept

theorem discardStep_of_hunt {line : Line} {s : State} (hunt : s.lines.rx line = .hunt) (chars : List Byte) :
    discardStep line chars s = s := by
  rcases discardStep_cases line chars s with ⟨rx, _⟩ | ⟨_, kept⟩
  · exact absurd hunt rx
  · exact kept

theorem discardStep_of_discarded {line : Line} {chars : List Byte} {s : State} (rx : s.lines.rx line ≠ .hunt)
    (discarded : isDiscarded line chars s = true) : discardStep line chars s = endReception line s := by
  rcases discardStep_cases line chars s with ⟨_, _, ended⟩ | ⟨hunt | kept, _⟩
  · exact ended
  · exact absurd hunt rx
  · rw [discarded] at kept; cases kept

/-- R3, R7: idle on a south line that the part is not using arms its receiver, or ends a reception. -/
theorem southIdle_eq {s : State} (receiving : Bool) (tx : s.lines.southTx = none) :
    southIdle receiving s = { s with lines := { s.lines with
      southRx := if s.lines.southRx.noted receiving = .receiving then .hunt else .armed } } := by
  have free : ¬ s.lines.southTx.isSome = true := by simp [tx]
  rw [southIdle, if_neg free]
  cases rx : s.lines.southRx.noted receiving with
  | hunt => rw [receiverIdle_of_hunt (line := .south) _ rx, if_neg (by decide)]
  | armed =>
    rw [receiverIdle_of_armed (line := .south) _ rx, if_neg (by decide), ← armed_of_noted rx]
  | receiving => rw [receiverIdle_of_receiving (line := .south) _ rx, if_pos rfl, endReception_south]

/-- R3: idle on the north receive direction arms a receiver that is taking in no telegram. -/
theorem northReceiveIdle_of_idle {s : State} {receiving : Bool}
    (idle : s.lines.northRx.noted receiving ≠ .receiving) :
    northReceiveIdle receiving s = { s with lines := { s.lines with northRx := .armed } } := by
  unfold northReceiveIdle
  cases rx : s.lines.northRx.noted receiving with
  | hunt => rw [receiverIdle_of_hunt (line := .north) _ rx]
  | armed => rw [receiverIdle_of_armed (line := .north) _ rx, ← armed_of_noted rx]
  | receiving => exact absurd rx idle

/-- Settles O59, by the receiver's state for each event, and by the reason for which a telegram is
discarded. -/
theorem lineEventsMoveTheReceivers : Obligations.LineEventsMoveTheReceivers := by
  intro s held
  have idle (line) : exec (.lineIdle line) s = .next (idleStep line s) := exec_of_running _ held
  have abandoned (line cause) : exec (.telegramAbandoned line cause) s = .next (abandonStep line cause s) :=
    exec_of_running _ held
  have discarded (line chars) : exec (.discardedTelegram line chars) s = .next (discardStep line chars s) :=
    exec_of_running _ held
  simp only [idle, abandoned, discarded, idleStep]
  refine ⟨fun receiving => ⟨fun tx => ?_, fun tx => ?_, fun rx => ?_, fun rx => ?_⟩, fun tx => ?_,
    fun line cause chars ended rx receiver ended_eq => ?_⟩
  · rw [southIdle, if_pos (Option.isSome_iff_ne_none.2 tx)]
  · rw [southIdle_eq receiving tx]
  · rw [northReceiveIdle_of_idle rx]
  · rw [northReceiveIdle, receiverIdle_of_receiving (line := .north) _ rx, endReception_north]
  · rw [northTransmitIdle, tx]
  · have receiver : s.lines.rx line = rx := by
      rw [receiver]
      cases line <;> rfl
    have ending : endReception line s = ended := by
      rw [ended_eq]
      cases line with
      | south => rfl
      | north => exact endReception_north s
    clear ended_eq
    subst receiver
    refine ⟨fun hunt => ?_, fun reason => ?_, fun busy reason => ?_⟩
    · rw [abandonStep_of_hunt hunt, discardStep_of_hunt hunt]
      exact ⟨rfl, rfl⟩
    · rw [abandonStep_of_abandons ?_, ending]
      rcases reason with ⟨rx, rfl⟩ | ⟨rx, n, rfl, long⟩ | ⟨rx, c, rfl, other⟩
      · simp [abandons, rx]
      · simp [abandons, rx, long]
      · simp [abandons, rx, other]
    · rw [discardStep_of_discarded busy ?_, ending]
      rcases reason with ⟨t, crc, short, bad, rfl⟩ | ⟨dest, source, code, payload, _, short, unknown, rfl, rfl⟩ |
        ⟨t, short, rfl, unfit⟩ | ⟨t, short, rfl, rfl, other⟩ | ⟨t, short, rfl, rfl, other⟩
      · exact isDiscarded_of_crc short bad line s
      · exact isDiscarded_of_unknown short unknown _ line s
      · exact isDiscarded_of_unfit short unfit s
      · exact isDiscarded_of_other_traffic short (isSupervisorTraffic_eq_false other)
      · exact isDiscarded_of_unmatched short (answersOpen_eq_false other)

end Sys2Proof.Machine
end

section
/-! The first activation out of UNCONFIGURED. Settles FirstActivationEntersPurge. -/

namespace Sys2Proof.Machine

/-! ### The active bank -/

theorem tables_of_active {s : State} {m : Memory} (active : s.banks.activeBank = some m) : s.tables = m := by
  rw [State.tables, active, Option.getD_some]

theorem site_of_active {s : State} {m : Memory} (active : s.banks.activeBank = some m) : s.site = siteOf m := by
  rw [State.site, tables_of_active active]

theorem policy_of_active {s : State} {m : Memory} (active : s.banks.activeBank = some m) :
    s.policy = Policy.ofBank m := by
  rw [State.policy, BankManager.policy, active]

/-! ### A check that passes (R183 to R186) -/

theorem bankImage_eq_imageOf (m : Memory) : bankImage m = imageOf m := by
  simp [bankImage, imageOf, imageLength, Memory.readBytes]

theorem firstFailedCheck_of_tenChecks {m : Memory} (passes : ∀ b ∈ tenChecks m, b = true) :
    firstFailedCheck m = none := by
  simp only [tenChecks, List.forall_mem_cons] at passes
  simp [firstFailedCheck, numberedChecks, passes]

/-- R186: a check that passes while the part is UNCONFIGURED activates the bank at once. -/
theorem checkEndStep_of_passing {s : State} {expected : Crc} (unconfigured : s.control.device = .unconfigured)
    (checking : s.banks.state = .checking expected) (crc : crc16 (imageOf s.banks.standbyBank) = expected)
    (passes : ∀ b ∈ tenChecks s.banks.standbyBank, b = true) : checkEndStep s = firstActivation s := by
  rw [checkEndStep, checking]
  simp only
  rw [checkEnd, bankImage_eq_imageOf, if_neg (not_not.2 crc), firstFailedCheck_of_tenChecks passes, unconfigured]

/-! ### The activation (R2, R63, R90, R116, R119, R186) -/

/-- The part with its first bank active, before it enters PURGE. -/
def State.firstActivated (s : State) : State :=
  writeOutputs (finishSwap (exchangeBanks (reinitialiseAll s)))

theorem firstActivation_eq (s : State) : firstActivation s = evalRelays (enterPurge s.firstActivated) := rfl

theorem firstActivated_banks (s : State) :
    s.firstActivated.banks = { s.banks with active := some s.banks.standbyId, state := .idle } := by
  simp [State.firstActivated]

theorem firstActivated_active (s : State) :
    s.firstActivated.banks.activeBank = some s.banks.standbyBank := by
  rw [firstActivated_banks, BankManager.standbyBank]
  cases s.banks.standbyId <;> rfl

/-- The bank that the swap's rates and its DONE come from. -/
theorem exchangeBanks_active (s : State) :
    (exchangeBanks s).banks.activeBank = some s.banks.standbyBank := by
  rw [exchangeBanks_banks, BankManager.standbyBank]
  cases s.banks.standbyId <;> rfl

/-- R2, R186: the lines after a first activation, from those of a part that is UNCONFIGURED. -/
theorem firstActivation_rates {s : State} {site : Site} (bank : site = siteOf s.banks.standbyBank)
    (rates : s.lines.southRate = .b19200 ∧ s.lines.northRate = .b19200 ∧ s.lines.southPending = none ∧
      s.lines.northPending = .none) :
    (firstActivation s).lines.southRate = .b19200 ∧
    (firstActivation s).lines.southPending = (if site.south = .b19200 then none else some site.south) ∧
    (firstActivation s).lines.northRate = .b19200 ∧
    (firstActivation s).lines.northPending =
      (if site.north = .b19200 then .none else .awaitingResponse site.north) ∧
    (firstActivation s).north.built.getLast? = some
      { source := s.address, echo := 0x03#8, result := .done, payload := []
        mark := if site.north = .b19200 then .plain else .endsOldRate } := by
  obtain ⟨south, north, southPending, northPending⟩ := rates
  have site' : (exchangeBanks (reinitialiseAll s)).site = site :=
    (site_of_active (exchangeBanks_active (reinitialiseAll s))).trans bank.symm
  have lines : (exchangeBanks (reinitialiseAll s)).lines = s.lines := rfl
  have changes : northRateChanges site.north s.lines = decide (site.north ≠ .b19200) := by
    rw [northRateChanges, northPending, north]
    simp [bne, beq_eq_decide]
  have built : (firstActivation s).north.built =
      (finishSwap (exchangeBanks (reinitialiseAll s))).north.built := by
    simp [firstActivation, enterPurge]
  rw [firstActivation_lines, finishSwap_lines_frame, built, finishSwap_north, site', lines, changes]
  refine ⟨south, ?_, north, ?_, ?_⟩
  · simp only [southPending, south, true_and]
  · simp only [northPending, decide_eq_true_eq, ne_eq, ite_not]
  · rw [List.getLast?_concat]
    simp only [decide_eq_true_eq, ne_eq, ite_not]
    rfl

/-- R109: the outputs' next pairs at a first activation, every fan commanded its full duty. -/
theorem firstActivated_output (s : State) (k : Fin 4) :
    s.firstActivated.pwm.outputs[k].running = s.pwm.outputs[k].running ∧
    s.firstActivated.pwm.outputs[k].next = some
      (if (assignedFan s.banks.standbyBank k).isSome then
        { high := (siteOf s.banks.standbyBank).pwmPeriod k, low := 0
          period := (siteOf s.banks.standbyBank).pwmPeriod k }
      else
        { high := 0, low := (siteOf s.banks.standbyBank).pwmPeriod k
          period := (siteOf s.banks.standbyBank).pwmPeriod k }) := by
  have active : (finishSwap (exchangeBanks (reinitialiseAll s))).banks.activeBank =
      some s.banks.standbyBank := by
    rw [← firstActivated_active, State.firstActivated, writeOutputs_banks]
  have full : ∀ f : Fin 16,
      (finishSwap (exchangeBanks (reinitialiseAll s))).alloc.fans[f].commanded = 100 := fun f => by
    simp [FanRec.initial]
  rw [← outputPair_of_full active full k]
  simp [State.firstActivated, writeOutputs, PwmOutput.write]

/-- R119, R139: the conditions that an entry into PURGE hands over, under the new policy. -/
theorem firstActivation_source (s : State) (i : Fin 77) :
    (firstActivation s).alarm.sources[i] =
      if i.val = 72 then
        SourceRec.handed ((Policy.ofBank s.banks.standbyBank).cls i) false s.alarm.sources[i]
      else if i.val = 73 then
        SourceRec.handed ((Policy.ofBank s.banks.standbyBank).cls i) true s.alarm.sources[i]
      else s.alarm.sources[i] := by
  have alarm : (enterPurge s.firstActivated).alarm = (setDevice .purge s.firstActivated).alarm := by
    simp [enterPurge]
  have kept : s.firstActivated.alarm = s.alarm := by simp [State.firstActivated]
  have purge : (i = sourcePurge) ↔ i.val = 73 := Fin.ext_iff
  have unconfigured : (i = sourceUnconfigured) ↔ i.val = 72 := Fin.ext_iff
  rw [firstActivation_eq, evalRelays_sources, alarm, setDevice_source, kept,
    policy_of_active (firstActivated_active s)]
  simp only [purge, unconfigured]
  by_cases h : i.val = 72
  · rw [if_neg (by omega), if_pos h, if_pos h]
    rfl
  · rw [if_neg h, if_neg h]
    rfl

/-- Settles O57: the check passes, and the activation is an entry into PURGE with the new bank active. -/
theorem firstActivationEntersPurge : Obligations.FirstActivationEntersPurge := by
  intro s expected m held coherent stands device checking bank crc passes
  have active := coherent.bank.1 device
  have standby : s.banks.standbyId = .a := by rw [BankManager.standbyId, active]
  have bank : s.banks.standbyBank = m := by rw [BankManager.standbyBank, standby, bank]; rfl
  subst bank
  have taken : exec .activationCheckEnd s = .next (firstActivation s) := by
    have e : exec .activationCheckEnd s = .next (checkEndStep s) := exec_of_running _ held
    rw [e, checkEndStep_of_passing device checking crc passes]
  have banks : (firstActivation s).banks = { s.banks with active := some .a, state := .idle } := by
    rw [← standby, ← firstActivated_banks, firstActivation_eq]
    simp [enterPurge]
  have running := firstActivated_active s
  have site := site_of_active running
  have rest : s.firstActivated.scan = ScanEngine.initial := by
    rw [← stands.scan device]
    simp [State.firstActivated]
  obtain ⟨control, pwm, converter, north, _, _, store, zones, relays⟩ := enterPurge_fields s.firstActivated
  obtain ⟨southRate, southPending, northRate, northPending, done⟩ :=
    firstActivation_rates (s := s) rfl (stands.rates device)
  refine ⟨firstActivation s, taken, banks, ?_, ?_, ?_, ?_, ?_, ?_, ?_, fun k => ?_, southRate, southPending,
    northRate, northPending, ?_, done, ?_, ?_, firstActivation_source s, ?_, ?_⟩
  · rw [firstActivation_eq, evalRelays_control, control, site]
  · rw [firstActivation_eq, evalRelays_scan, enterPurge_scan_of_initial rest, site]
  · rw [firstActivation_eq, evalRelays_converter, converter, conversionList_eq, tables_of_active running]
  · rw [firstActivation_eq, evalRelays_store, store]
    simp [State.firstActivated]
  · rw [firstActivation_eq, evalRelays_zones, zones]
    simp [State.firstActivated]
  · simp [firstActivation_eq, enterPurge, State.firstActivated, interlockOf]
  · rw [firstActivation_eq, evalRelays_pwm, pwm]
  · rw [firstActivation_eq, evalRelays_pwm, pwm]
    exact firstActivated_output s k
  · rw [firstActivation_eq, evalRelays_north, north, State.firstActivated, writeOutputs_north, finishSwap_north]
    rfl
  · rw [firstActivation_eq, evalRelays_north, north, site]
    rfl
  · rw [firstActivation_eq, evalRelays_relayQueue, relays]
    exact stands.relays device
  · refine policy_of_active ?_
    rw [banks, BankManager.standbyBank, standby]
    rfl
  · exact evalRelays_follow _

end Sys2Proof.Machine
end

section
/-! The close that completes a swap. Settles CloseCompletesThePendingSwap. -/

namespace Sys2Proof.Machine

/-! ### The interlock and the end of a purge (R112, R119, R123) -/

theorem inhibits_iff (r : ZoneRec) :
    r.inhibits = true ↔ r.blind = true ∨ r.spill = true ∨ r.shortfall = true ∨
      r.effective = .alarm ∨ r.effective = .danger := by
  unfold ZoneRec.inhibits
  cases r.effective <;> simp [or_assoc]

/-- R112: in RUN the interlock is that of the enabled zones. -/
theorem interlockOf_run_iff (s : State) :
    interlockOf .run s.tables s.zones = true ↔ ∃ z : Fin 8, s.zoneInhibits z := by
  simp only [interlockOf, State.zoneInhibits, bne_self_eq_false, Bool.false_or, List.any_eq_true,
    List.mem_finRange, true_and, Bool.and_eq_true, inhibits_iff]

/-- R119, R123: the end of a purge hands UNCONFIGURED and PURGE over as not holding. -/
theorem purgeExpiry_source (s : State) (i : Fin 77) :
    (purgeExpiry s).alarm.sources[i] =
      if i.val = 72 ∨ i.val = 73 then SourceRec.handed (s.policy.cls i) false s.alarm.sources[i]
      else s.alarm.sources[i] := by
  have purge : (i = sourcePurge) ↔ i.val = 73 := Fin.ext_iff
  have unconfigured : (i = sourceUnconfigured) ↔ i.val = 72 := Fin.ext_iff
  rw [purgeExpiry, evalRelays_sources, setDevice_source, setPurgeTimer_alarm, setPurgeTimer_policy]
  simp only [purge, unconfigured]
  by_cases h : i.val = 73
  · rw [if_pos h, if_pos (.inr h)]
    rfl
  · by_cases h' : i.val = 72
    · rw [if_neg h, if_pos h', if_pos (.inl h')]
      rfl
    · rw [if_neg h, if_neg h', if_neg (by omega)]

theorem purgeExpiry_relaysFollow (s : State) : (purgeExpiry s).relaysFollow := evalRelays_follow _

/-- What the end of a purge of 0 s at a close writes. -/
theorem closePurge_frame (s : State) :
    closePurge s =
      { s with
        control := (closePurge s).control
        alloc := { s.alloc with inhibit := (closePurge s).alloc.inhibit }
        alarm := (closePurge s).alarm } := by
  rcases closePurge_cases s with ⟨_, _, e⟩ | ⟨_, e⟩ <;> rw [e]
  rw [purgeExpiry_frame]

theorem closePurge_of_ends {s : State} (ends : s.control.device = .purge ∧ s.control.purgeTimer = some 0) :
    closePurge s = purgeExpiry s := by
  rcases closePurge_cases s with ⟨_, _, e⟩ | ⟨other, _⟩
  · exact e
  · exact absurd ends other

theorem closePurge_of_goes_on {s : State}
    (goesOn : ¬ (s.control.device = .purge ∧ s.control.purgeTimer = some 0)) : closePurge s = s := by
  rcases closePurge_cases s with ⟨device, timer, _⟩ | ⟨_, e⟩
  · exact absurd ⟨device, timer⟩ goesOn
  · exact e

/-- Relays that follow the sources of a state follow those of one with the same Alarm Unit and banks. -/
theorem relaysFollow_of_same {s t : State} (h : s.relaysFollow) (alarm : t.alarm = s.alarm)
    (banks : t.banks = s.banks) : t.relaysFollow := by
  have policy : t.policy = s.policy := by rw [State.policy, State.policy, banks]
  rw [State.relaysFollow, alarm, policy]
  exact h

/-! ### Records at a swap (R62, R88, R115, R188) -/

theorem recordDiffers_iff (a c : Memory) (start len : Nat) :
    recordDiffers a c start len = true ↔ ∃ j : Fin len, a.read (start + j) ≠ c.read (start + j) := by
  simp only [recordDiffers, List.any_eq_true, List.mem_range, bne_iff_ne]
  exact ⟨fun ⟨j, bound, differs⟩ => ⟨⟨j, bound⟩, differs⟩, fun ⟨j, differs⟩ => ⟨j, j.isLt, differs⟩⟩

/-- R188: a record is reset when its entry differs in any byte, and kept otherwise. -/
theorem reinitChanged_getElem {α : Type} {n : Nat} (old new : Memory) (start : Nat → Nat) (len : Nat)
    (initial : α) (v : Vector α n) (i : Fin n)
    [Decidable (∃ j : Fin len, new.read (start i + j) ≠ old.read (start i + j))] :
    (reinitChanged old new start len initial v)[i] =
      if ∃ j : Fin len, new.read (start i + j) ≠ old.read (start i + j) then initial else v[i] := by
  rw [reinitChanged, fin_getElem_mapFin]
  exact if_congr (recordDiffers_iff _ _ _ _) rfl rfl

/-! ### The swap (R2, R166, R187) -/

/-- The part with the banks exchanged and the changed records reset. -/
def State.exchanged (s : State) : State := exchangeBanks (reinitialise s.tables s.banks.standbyBank s)

theorem exchanged_active (s : State) : s.exchanged.banks.activeBank = some s.banks.standbyBank := by
  rw [State.exchanged, exchangeBanks_banks, reinitialise_banks, BankManager.standbyBank]
  cases s.banks.standbyId <;> rfl

theorem exchanged_lines (s : State) : s.exchanged.lines = s.lines := by simp [State.exchanged]

theorem exchanged_north (s : State) : s.exchanged.north = s.north := by simp [State.exchanged]

theorem exchanged_address (s : State) : s.exchanged.address = s.address := by simp [State.exchanged]

/-- A swap's rates, DONE, silence timer, outputs and relays come from the new bank. -/
theorem swapAtClose_eq (s : State) :
    swapAtClose s = evalRelays (writeOutputs
      (setSilence (silenceAtSwap s.site.silence (siteOf s.banks.standbyBank).silence s.north.silence)
        (finishSwap s.exchanged))) := by
  have site : (finishSwap s.exchanged).site = siteOf s.banks.standbyBank := by
    refine site_of_active ?_
    rw [finishSwap_banks]
    exact exchanged_active s
  have silence : (finishSwap s.exchanged).north.silence = s.north.silence := by
    rw [finishSwap_north, exchanged_north]
  rw [← site, ← silence]
  rfl

theorem swapAtClose_active (s : State) : (swapAtClose s).banks.activeBank = some s.banks.standbyBank := by
  rw [swapAtClose_frame]
  simp only [BankManager.activeBank, BankManager.standbyBank]
  cases s.banks.standbyId <;> rfl

theorem swapAtClose_relaysFollow (s : State) : (swapAtClose s).relaysFollow := evalRelays_follow _

theorem swapAtClose_channels (s : State) :
    (swapAtClose s).store.channels =
      reinitChanged s.tables s.banks.standbyBank channelAt 16 ChannelRec.initial s.store.channels := by
  simp [swapAtClose, reinitialise]

theorem swapAtClose_zones (s : State) :
    (swapAtClose s).zones =
      reinitChanged s.tables s.banks.standbyBank zoneAt 22 ZoneRec.initial s.zones := by
  simp [swapAtClose, reinitialise]

theorem swapAtClose_fans (s : State) :
    (swapAtClose s).alloc.fans =
      reinitChanged s.tables s.banks.standbyBank fanAt 12 FanRec.initial s.alloc.fans := by
  simp [swapAtClose, reinitialise]

theorem swapAtClose_tach (s : State) : (swapAtClose s).pwm.tach = s.pwm.tach := by
  simp [swapAtClose, writeOutputs]

/-- R109, R187: a swap rewrites every output's next pair, and leaves the running period. -/
theorem swapAtClose_output (s : State) (k : Fin 4) :
    (swapAtClose s).pwm.outputs[k] =
      { s.pwm.outputs[k] with next := some (outputPair (swapAtClose s) k) } := by
  have pair : ∀ u : State, outputPair (evalRelays (writeOutputs u)) k = outputPair u k := fun u => by
    simp [outputPair]
  rw [swapAtClose_eq, pair]
  simp [writeOutputs, PwmOutput.write, State.exchanged]

theorem outputPair_of_unassigned {s : State} {m : Memory} {k : Fin 4} (active : s.banks.activeBank = some m)
    (unassigned : assignedFan m k = none) :
    outputPair s k = { high := 0, low := (siteOf m).pwmPeriod k, period := (siteOf m).pwmPeriod k } := by
  simp [outputPair, active, unassigned, pwmPair]

theorem outputPair_of_assigned {s : State} {m : Memory} {k : Fin 4} {f : Fin 16}
    (active : s.banks.activeBank = some m) (assigned : assignedFan m k = some f) :
    outputPair s k = pwmPair s.alloc.fans[f].commanded ((siteOf m).pwmPeriod k) := by
  simp only [outputPair, active, assigned]

/-- R2, R187: the lines after a swap at a close. -/
theorem swapAtClose_rates (s : State) {site : Site} (bank : site = siteOf s.banks.standbyBank) :
    (swapAtClose s).lines = { s.lines with
      southPending :=
        if s.lines.southPending = none ∧ site.south = s.lines.southRate then none else some site.south
      northPending :=
        if northRateChanges site.north s.lines then .awaitingResponse site.north else s.lines.northPending
      northTx :=
        if northRateChanges site.north s.lines then s.lines.northTx.withoutRate else s.lines.northTx } := by
  have site' : s.exchanged.site = site := (site_of_active (exchanged_active s)).trans bank.symm
  rw [swapAtClose_lines, ← State.exchanged, finishSwap_lines_frame, site', exchanged_lines]

/-- R2, R166, R187: the north link after a swap at a close. -/
theorem swapAtClose_north (s : State) {site : Site} (bank : site = siteOf s.banks.standbyBank) :
    (swapAtClose s).north = { s.north with
      reserved := s.north.reserved - 1
      built :=
        (if northRateChanges site.north s.lines then
          s.north.built.map fun r => { r with mark := r.mark.withoutRate }
        else s.north.built) ++
        [{ source := s.address, echo := codeActivate, result := .done, payload := []
           mark := if northRateChanges site.north s.lines then .endsOldRate else .plain }]
      silence := silenceAtSwap s.site.silence site.silence s.north.silence } := by
  have site' : s.exchanged.site = site := (site_of_active (exchanged_active s)).trans bank.symm
  rw [swapAtClose_eq, evalRelays_north, writeOutputs_north, setSilence_north, finishSwap_north, site', exchanged_lines,
    exchanged_north, exchanged_address, ← bank]

/-! ### The work of a close (R20, R99) -/

theorem closeWork_banks (s : State) : (closeWork s).banks = s.banks := by rw [closeWork_frame]

theorem closeWork_lines (s : State) : (closeWork s).lines = s.lines := by rw [closeWork_frame]

theorem closeWork_north (s : State) : (closeWork s).north = s.north := by rw [closeWork_frame]

theorem closeWork_address (s : State) : (closeWork s).address = s.address := by rw [closeWork_frame]

theorem closeWork_tables (s : State) : (closeWork s).tables = s.tables := by
  rw [State.tables, State.tables, closeWork_banks]

theorem closeWork_site (s : State) : (closeWork s).site = s.site := by
  rw [State.site, State.site, closeWork_tables]

/-- R98, R99: a close's work leaves the running PWM periods and sets the tach counts to 0. -/
theorem closeWork_pwm_running (s : State) :
    (closeWork s).pwm.tach = Vector.replicate 4 0 ∧
      ∀ k : Fin 4, (closeWork s).pwm.outputs[k].running = s.pwm.outputs[k].running := by
  rw [closeWork_pwm, commandFans, writeOutputs]
  refine ⟨?_, fun k => ?_⟩
  · simp
  · rw [fin_getElem_mapFin, closeScan_frame]
    simp [PwmOutput.write]

/-! ### The close that swaps (R20, R21, R121, R187) -/

/-- The work of a close and the swap that it completes. -/
def State.swapped (s : State) : State := swapAtClose (closeWork s)

/-- After its parts' work a late close starts the next cycle. -/
theorem closeCycle_of_swap {s : State} (swap : s.banks.state = .swapPending) :
    closeCycle s =
      if closeIsLate s then cycleStart (closePurge s.swapped) else closePurge s.swapped := by
  have swapped : closeSwap (closeWork s) = s.swapped := by
    rcases closeSwap_cases (closeWork s) with ⟨_, e⟩ | ⟨other, _⟩
    · exact e
    · exact absurd (by rw [closeWork_frame]; exact swap) other
  rw [closeCycle, swapped]

/-- After the swap a close writes what the end of a purge and a cycle start write. -/
theorem closeCycle_frame {s : State} (swap : s.banks.state = .swapPending) :
    closeCycle s = { s.swapped with
      scan := (closeCycle s).scan
      converter := (closeCycle s).converter
      control := (closePurge s.swapped).control
      alloc := { s.swapped.alloc with inhibit := (closePurge s.swapped).alloc.inhibit }
      alarm := (closePurge s.swapped).alarm } := by
  have kept : closeCycle s = { closePurge s.swapped with
      scan := (closeCycle s).scan, converter := (closeCycle s).converter } := by
    rw [closeCycle_of_swap swap]
    split <;> rfl
  rw [closePurge_frame] at kept
  exact kept

theorem swapped_active (s : State) : s.swapped.banks.activeBank = some s.banks.standbyBank := by
  rw [State.swapped, swapAtClose_active, closeWork_banks]

/-- R187: the swap leaves the scan, the converter, the interlock and the sources as the close's work does. -/
theorem swapped_frame (s : State) :
    s.swapped = { s with
      lines := s.swapped.lines
      scan := { s.scan with
        cycleOpen := false, scanPos := none, overrun := s.scan.overrun && closeIsLate s }
      store := { s.store with channels := s.swapped.store.channels, unclassifiedMark := false }
      zones := s.swapped.zones
      alloc := { s.swapped.alloc with inhibit := (closeWork s).alloc.inhibit }
      pwm := s.swapped.pwm
      alarm := { s.swapped.alarm with sources := (closeWork s).alarm.sources }
      north := s.swapped.north
      banks := { s.banks with active := some s.banks.standbyId, state := .idle } } := by
  have h := swapAtClose_frame (closeWork s)
  rw [← State.swapped] at h
  have work := closeWork_frame s
  ext1 <;> rw [h]
  all_goals rw [work]

theorem swapped_channels (s : State) :
    s.swapped.store.channels =
      reinitChanged s.tables s.banks.standbyBank channelAt 16 ChannelRec.initial s.store.channels := by
  have kept : (closeWork s).store.channels = s.store.channels := by rw [closeWork_frame]
  rw [State.swapped, swapAtClose_channels, closeWork_tables, closeWork_banks, kept]

theorem swapped_zones (s : State) :
    s.swapped.zones =
      reinitChanged s.tables s.banks.standbyBank zoneAt 22 ZoneRec.initial (closeWork s).zones := by
  rw [State.swapped, swapAtClose_zones, closeWork_tables, closeWork_banks]

theorem swapped_fans (s : State) :
    s.swapped.alloc.fans =
      reinitChanged s.tables s.banks.standbyBank fanAt 12 FanRec.initial (closeWork s).alloc.fans := by
  rw [State.swapped, swapAtClose_fans, closeWork_tables, closeWork_banks]

/-- The lines after a close that swaps. -/
theorem swapped_lines (s : State) {m : Memory} (bank : m = s.banks.standbyBank) :
    s.swapped.lines = { s.lines with
      southPending :=
        if s.lines.southPending = none ∧ (siteOf m).south = s.lines.southRate then none
        else some (siteOf m).south
      northPending :=
        if northRateChanges (siteOf m).north s.lines then .awaitingResponse (siteOf m).north
        else s.lines.northPending
      northTx :=
        if northRateChanges (siteOf m).north s.lines then s.lines.northTx.withoutRate
        else s.lines.northTx } := by
  have standby : siteOf m = siteOf (closeWork s).banks.standbyBank := by rw [closeWork_banks, bank]
  rw [State.swapped, swapAtClose_rates _ standby, closeWork_lines]

/-- The north link after a close that swaps. -/
theorem swapped_north (s : State) {m : Memory} (bank : m = s.banks.standbyBank) :
    s.swapped.north = { s.north with
      reserved := s.north.reserved - 1
      built :=
        (if northRateChanges (siteOf m).north s.lines then
          s.north.built.map fun r => { r with mark := r.mark.withoutRate }
        else s.north.built) ++
        [{ source := s.address, echo := codeActivate, result := .done, payload := []
           mark := if northRateChanges (siteOf m).north s.lines then .endsOldRate else .plain }]
      silence := silenceAtSwap s.site.silence (siteOf m).silence s.north.silence } := by
  have standby : siteOf m = siteOf (closeWork s).banks.standbyBank := by rw [closeWork_banks, bank]
  rw [State.swapped, swapAtClose_north _ standby, closeWork_north, closeWork_lines, closeWork_site,
    closeWork_address]

theorem withoutRate_eq (mark : ReplyMark) :
    mark.withoutRate = if mark = .endsOldRate then .plain else mark := by
  cases mark <;> rfl

theorem northTx_withoutRate_eq (tx : NorthTx) :
    tx.withoutRate =
      match tx with
      | .sending tel .endsOldRate => .sending tel .plain
      | tx => tx := by
  cases tx with
  | sending tel mark => cases mark <;> rfl
  | settling | ready => rfl

/-- R2: the north link's rate, its telegram on the way and its answers after a close that swaps. -/
theorem swapped_northRate (s : State) {m : Memory} (bank : m = s.banks.standbyBank) :
    if s.lines.northPending = .none ∧ (siteOf m).north = s.lines.northRate then
      s.swapped.lines.northPending = .none ∧ s.swapped.lines.northTx = s.lines.northTx ∧
      s.swapped.north.built = s.north.built ++
        [{ source := s.address, echo := 0x03#8, result := .done, payload := [], mark := .plain }]
    else
      s.swapped.lines.northPending = .awaitingResponse (siteOf m).north ∧
      s.swapped.lines.northTx = s.lines.northTx.withoutRate ∧
      s.swapped.north.built =
        (s.north.built.map fun r =>
          { r with mark := if r.mark = .endsOldRate then .plain else r.mark }) ++
        [{ source := s.address, echo := 0x03#8, result := .done, payload := [],
           mark := .endsOldRate }] := by
  rw [swapped_lines s bank, swapped_north s bank]
  cases changes : northRateChanges (siteOf m).north s.lines
  · have same := (northRateChanges_eq_false_iff _ _).1 changes
    rw [if_pos same]
    exact ⟨same.1, rfl, rfl⟩
  · have differs : ¬ (s.lines.northPending = .none ∧ (siteOf m).north = s.lines.northRate) := fun same => by
      rw [(northRateChanges_eq_false_iff _ _).2 same] at changes
      cases changes
    rw [if_neg differs]
    simp only [withoutRate_eq]
    exact ⟨rfl, rfl, rfl⟩

/-- R109, R187: an output after a close that swaps. -/
theorem swapped_output (s : State) (k : Fin 4) :
    s.swapped.pwm.outputs[k].running = s.pwm.outputs[k].running ∧
      s.swapped.pwm.outputs[k].next = some (outputPair s.swapped k) := by
  rw [State.swapped, swapAtClose_output]
  exact ⟨(closeWork_pwm_running s).2 k, rfl⟩

/-- R20: a close while the timer runs starts no cycle. -/
theorem closeCycle_of_running {s : State} {p : Nat} (swap : s.banks.state = .swapPending)
    (timer : s.scan.timer = .running p) :
    (closeCycle s).scan = { s.scan with cycleOpen := false, scanPos := none, overrun := false } ∧
      (closeCycle s).converter = s.converter := by
  have late : closeIsLate s = false := by rw [closeIsLate, timer]
  rw [closeCycle_of_swap swap, late, if_neg (by decide), (closePurge_lines_slot _).2, closePurge_frame,
    swapped_frame, late, Bool.and_false]
  exact ⟨rfl, rfl⟩

/-- R21: a late close starts the next cycle under the new bank. -/
theorem closeCycle_of_expired {s : State} (swap : s.banks.state = .swapPending)
    (timer : s.scan.timer = .expired) (bound : s.scan.cycle ≤ 65535) :
    (closeCycle s).scan = { s.scan with
        cycle := if s.scan.cycle = 65535 then 0 else s.scan.cycle + 1
        timer := .running (siteOf s.banks.standbyBank).scanPeriod
        cycleOpen := true
        scanPos := some 0 } ∧
      (closeCycle s).converter = conversionList s.banks.standbyBank := by
  have late : closeIsLate s = true := by rw [closeIsLate, timer]
  have active : (closePurge s.swapped).banks.activeBank = some s.banks.standbyBank := by
    rw [closePurge_frame]
    exact swapped_active s
  have next : (s.scan.cycle + 1) % 65536 = if s.scan.cycle = 65535 then 0 else s.scan.cycle + 1 := by
    split <;> omega
  rw [closeCycle_of_swap swap, late, if_pos rfl, cycleStart_scan, cycleStart_converter, site_of_active active,
    tables_of_active active, (closePurge_lines_slot _).2, swapped_frame, late, Bool.and_true, ← next]
  exact ⟨rfl, rfl⟩

/-- Settles O50: block by block, from the close's work, the swap and the end of a purge. -/
theorem closeCompletesThePendingSwap : Obligations.CloseCompletesThePendingSwap := by
  intro s w old m ends ready swap active bank work ending
  have frame := closeCycle_frame swap
  have running := swapped_active s
  rw [← bank] at running
  have standby : s.banks.standbyId = if old = .a then .b else .a := by
    rw [BankManager.standbyId, active]
    cases old <;> rfl
  have banks : (closeCycle s).banks = s.swapped.banks := by rw [frame]
  have banks' : s.swapped.banks =
      { s.banks with active := some (if old = .a then .b else .a), state := .idle } := by
    rw [swapped_frame, standby]
  have tables : (closeCycle s).tables = m := tables_of_active (by rw [banks]; exact running)
  have control : s.swapped.control = s.control := by rw [swapped_frame]
  have ending' : ends ↔ s.swapped.control.device = .purge ∧ s.swapped.control.purgeTimer = some 0 := by
    rw [control]; exact ending
  have zones : (closeCycle s).zones = s.swapped.zones := by rw [frame]
  have fans : (closeCycle s).alloc.fans = s.swapped.alloc.fans := by rw [frame]
  have pwm : (closeCycle s).pwm = s.swapped.pwm := by rw [frame]
  have lines : (closeCycle s).lines = s.swapped.lines := by rw [frame]
  have north : (closeCycle s).north = s.swapped.north := by rw [frame]
  have swapped := swapped_frame s
  have newLines := swapped_lines s bank
  have newNorth := swapped_north s bank
  refine ⟨closeCycle s, exec_cycleClose_of_ready ready, banks.trans banks', ?_, ?_, ?_,
    fun goesOn => ?_, fun ended => ?_, fun i => ?_, fun z => ?_, fun f => ?_, ?_, fun k => ?_,
    fun p timer => ?_, fun timer bound => ?_, ?_, ?_, ?_, ?_, ?_, ?_, ?_, ?_, ?_, ?_, ?_, ?_, ?_, ?_, ?_, ?_⟩
  · rw [frame, swapped]
  · refine relaysFollow_of_same (s := closePurge s.swapped) ?_ (by rw [frame]) ?_
    · rcases closePurge_cases s.swapped with ⟨_, _, e⟩ | ⟨_, e⟩ <;> rw [e]
      · exact purgeExpiry_relaysFollow _
      · exact swapAtClose_relaysFollow _
    · rw [banks, closePurge_frame]
  · rw [frame, swapped]
  · have same := closePurge_of_goes_on (mt ending'.2 goesOn)
    rw [frame, same, swapped, work]
    exact ⟨rfl, rfl, rfl⟩
  · have expired := closePurge_of_ends (ending'.1 ended)
    have policy : s.swapped.policy = Policy.ofBank m := policy_of_active running
    have sources : s.swapped.alarm.sources = w.alarm.sources := by rw [swapped, work]
    refine ⟨by rw [frame, expired, purgeExpiry_frame], ?_, fun i => ?_⟩
    · rw [← interlockOf_run_iff, tables, zones, frame, expired, purgeExpiry_frame,
        tables_of_active running]
    · rw [frame, expired, purgeExpiry_source, policy, sources]
  · rw [frame, swapped_channels, ← bank]
    exact reinitChanged_getElem s.tables m channelAt 16 _ _ i
  · rw [zones, swapped_zones, ← bank, ← work]
    exact reinitChanged_getElem s.tables m zoneAt 22 _ _ z
  · rw [fans, swapped_fans, ← bank, ← work]
    exact reinitChanged_getElem s.tables m fanAt 12 _ _ f
  · rw [pwm, State.swapped, swapAtClose_tach, (closeWork_pwm_running s).1]
  · rw [pwm, fans]
    obtain ⟨kept, next⟩ := swapped_output s k
    refine ⟨kept, fun unassigned => ?_, fun f assigned => ?_⟩
    · rw [next, outputPair_of_unassigned running unassigned]
    · rw [next, outputPair_of_assigned running assigned]
  · obtain ⟨scan, converter⟩ := closeCycle_of_running swap timer
    exact ⟨scan, converter.trans ready.2.2.2.2.2⟩
  · obtain ⟨scan, converter⟩ := closeCycle_of_expired swap timer bound
    rw [scan, converter, conversionList_eq, bank]
    exact ⟨rfl, rfl⟩
  iterate 3 rw [frame, swapped]
  iterate 7 rw [lines, newLines]
  · rw [lines, north]
    have rate := swapped_northRate s bank
    rw [northTx_withoutRate_eq] at rate
    exact rate
  iterate 4 rw [north, newNorth]
  · rw [north, newNorth]
    rfl

end Sys2Proof.Machine
end

section
/-! The measured values, the ring, the airflows, the tach counts and the cycle number stay in their ranges
(R19, R31, R47, R49, R68, R73 to R75, R82, R83, R98). Settles StepKeepsMeasuredInRange. -/

namespace Sys2Proof.Machine

/-! ### The ranges, record by record -/

/-- R47, R49: the measured fields of the record of a channel of a kind lie in their ranges. -/
structure ChannelRec.InRange (kind : ChannelKind) (r : ChannelRec) : Prop where
  value : r.value ≤ kindMaximum kind
  lastRaw : r.lastRaw ≤ 4095
  recovery : r.recovery ≤ 2

/-- R68, R73 to R75, R82, R83: the measured fields of a zone record lie in their ranges. -/
structure ZoneRec.InRange (r : ZoneRec) : Prop where
  held : r.held ≤ 1000
  ringLength : r.ring.length ≤ 6
  ring : ∀ v ∈ r.ring, v ≤ 1000
  rate : -1000 ≤ r.rate ∧ r.rate ≤ 1000
  qGen : r.qGen ≤ 65535
  qReq : r.qReq ≤ 65535

theorem State.MeasuredInRange.channel {s : State} (h : s.MeasuredInRange) (i : Fin 64) :
    s.store.channels[i].InRange (channelOf s.tables i).kind :=
  ⟨h.value i, h.lastRaw i, h.recovery i⟩

theorem State.MeasuredInRange.zone {s : State} (h : s.MeasuredInRange) (z : Fin 8) :
    s.zones[z].InRange :=
  ⟨h.held z, h.ringLength z, h.ring z, h.rate z, h.qGen z, h.qReq z⟩

/-- The invariant of a state is that of its records, its tach counts and its scan counts. -/
theorem measuredInRange_of_records {s : State}
    (channels : ∀ i : Fin 64, s.store.channels[i].InRange (channelOf s.tables i).kind)
    (zones : ∀ z : Fin 8, s.zones[z].InRange) (tach : ∀ k : Fin 4, s.pwm.tach[k] ≤ 65535)
    (cycle : s.scan.cycle ≤ 65535) (interleave : s.scan.interleave ≤ 16) : s.MeasuredInRange where
  value i := (channels i).value
  lastRaw i := (channels i).lastRaw
  recovery i := (channels i).recovery
  held z := (zones z).held
  ringLength z := (zones z).ringLength
  ring z := (zones z).ring
  rate z := (zones z).rate
  qGen z := (zones z).qGen
  qReq z := (zones z).qReq
  tach := tach
  cycle := cycle
  interleave := interleave

/-- The tables and the values that the invariant speaks of stand as they were. -/
structure SameMeasured (s t : State) : Prop where
  tables : t.tables = s.tables
  channels : t.store.channels = s.store.channels
  zones : t.zones = s.zones
  tach : t.pwm.tach = s.pwm.tach
  cycle : t.scan.cycle = s.scan.cycle
  interleave : t.scan.interleave = s.scan.interleave

theorem State.MeasuredInRange.congr {s t : State} (h : s.MeasuredInRange) (same : SameMeasured s t) :
    t.MeasuredInRange :=
  measuredInRange_of_records
    (by rw [same.tables, same.channels]; exact h.channel) (by rw [same.zones]; exact h.zone)
    (by rw [same.tach]; exact h.tach) (by rw [same.cycle]; exact h.cycle)
    (by rw [same.interleave]; exact h.interleave)

theorem inRange_initialChannel (kind : ChannelKind) : ChannelRec.initial.InRange kind :=
  ⟨Nat.zero_le _, Nat.zero_le _, Nat.zero_le _⟩

theorem inRange_initialZone : ZoneRec.initial.InRange :=
  ⟨Nat.zero_le _, Nat.zero_le _, by simp [ZoneRec.initial], by simp [ZoneRec.initial], Nat.zero_le _,
    Nat.zero_le _⟩

/-- R61, R87, R98: a part whose records stand at their reset values is in range, whatever its tables. -/
theorem measuredInRange_of_initial {s : State}
    (channels : s.store.channels = Vector.replicate 64 ChannelRec.initial)
    (zones : s.zones = Vector.replicate 8 ZoneRec.initial) (tach : ∀ k : Fin 4, s.pwm.tach[k] ≤ 65535)
    (cycle : s.scan.cycle ≤ 65535) (interleave : s.scan.interleave ≤ 16) : s.MeasuredInRange := by
  refine measuredInRange_of_records (fun i => ?_) (fun z => ?_) tach cycle interleave
  · simpa [channels] using inRange_initialChannel _
  · simpa [zones] using inRange_initialZone

/-! ### Channel events (R48 to R52) -/

/-- R50 to R52: an event keeps a record in range, if a value that it brings is. -/
theorem takeEvent_inRange (e : ChannelEntry) {ev : ChannelEvent} {kind : ChannelKind} {r : ChannelRec}
    (h : r.InRange kind) (brings : ∀ v, ev = .valid v → v ≤ kindMaximum kind) :
    (r.takeEvent e ev).InRange kind := by
  obtain ⟨value, lastRaw, recovery⟩ := h
  cases ev with
  | valid v =>
    have bound := brings v rfl
    simp only [ChannelRec.takeEvent, ChannelRec.takeValid]
    repeat' split
    · exact ⟨bound, lastRaw, Nat.zero_le _⟩
    · exact ⟨bound, lastRaw, by simp only; omega⟩
    · exact ⟨bound, lastRaw, recovery⟩
  | miss =>
    simp only [ChannelRec.takeEvent, ChannelRec.takeMiss]
    repeat' split
    · exact ⟨value, lastRaw, Nat.zero_le _⟩
    · exact ⟨value, lastRaw, Nat.zero_le _⟩
    · exact ⟨value, lastRaw, recovery⟩
    · exact ⟨value, lastRaw, Nat.zero_le _⟩
    · exact ⟨value, lastRaw, recovery⟩
  | warmup =>
    simp only [ChannelRec.takeEvent, ChannelRec.takeWarmup]
    split
    · exact ⟨value, lastRaw, Nat.zero_le _⟩
    · exact ⟨value, lastRaw, recovery⟩
  | fault => exact ⟨value, lastRaw, Nat.zero_le _⟩

/-- R48, R49: a reading is judged a value of at most the maximum of the channel's kind. -/
theorem judgeReading_valid_le {e : ChannelEntry} {status : HeadStatus} {raw v : Nat}
    (h : judgeReading e status raw = .valid v) : v ≤ kindMaximum e.kind := by
  unfold judgeReading at h
  repeat' split at h
  all_goals cases h
  exact Nat.min_le_right _ _

/-- R57 to R60: a channel event puts the record after the event in place, forwarded or not. -/
theorem channelEvent_channels (ch : Fin 64) (policy : ForwardPolicy) (deadband : Nat) (ev : ChannelEvent)
    (base : ChannelRec) (s : State) :
    ∃ r, (r = base.takeEvent (channelOf s.tables ch) ev ∨
        r = (base.takeEvent (channelOf s.tables ch) ev).forwarded) ∧
      (channelEvent ch policy deadband ev base s).store.channels = s.store.channels.set ch r := by
  simp only [channelEvent]
  split
  · exact ⟨_, .inr rfl, rfl⟩
  · exact ⟨_, .inl rfl, rfl⟩

theorem measuredInRange_channelEvent {ch : Fin 64} (policy : ForwardPolicy) (deadband : Nat)
    {ev : ChannelEvent} {base : ChannelRec} {s : State} (h : s.MeasuredInRange)
    (hbase : base.InRange (channelOf s.tables ch).kind)
    (brings : ∀ v, ev = .valid v → v ≤ kindMaximum (channelOf s.tables ch).kind) :
    (channelEvent ch policy deadband ev base s).MeasuredInRange := by
  obtain ⟨r, taken, channels⟩ := channelEvent_channels ch policy deadband ev base s
  have event := takeEvent_inRange (channelOf s.tables ch) hbase brings
  have new : r.InRange (channelOf s.tables ch).kind := by
    rcases taken with rfl | rfl
    · exact event
    · exact ⟨event.value, event.lastRaw, event.recovery⟩
  rw [channelEvent_frame, channels]
  refine measuredInRange_of_records (fun i => ?_) h.zone h.tach h.cycle h.interleave
  show ((s.store.channels.set ch r)[i]).InRange (channelOf s.tables i).kind
  rw [fin_getElem_set]
  split
  · next same => rw [← same]; exact new
  · exact h.channel i

/-- R48, R49: a reading with a raw value of at most 4095 keeps the records in range. -/
theorem measuredInRange_takeReading (ch : Fin 64) (policy : ForwardPolicy) (deadband : Nat)
    (status : HeadStatus) {raw : Nat} {s : State} (h : s.MeasuredInRange) (bound : raw ≤ 4095) :
    (takeReading ch policy deadband status raw s).MeasuredInRange := by
  by_cases used : (channelOf s.tables ch).kind = .none
  · rw [takeReading_of_none used]; exact h
  · rw [takeReading_of_used used]
    have old := h.channel ch
    exact measuredInRange_channelEvent policy deadband h ⟨old.value, bound, old.recovery⟩
      fun v => judgeReading_valid_le

theorem measuredInRange_takeChannelMiss (ch : Fin 64) (policy : ForwardPolicy) (deadband : Nat) {s : State}
    (h : s.MeasuredInRange) : (takeChannelMiss ch policy deadband s).MeasuredInRange := by
  unfold takeChannelMiss
  split
  · exact h
  · exact measuredInRange_channelEvent policy deadband h (h.channel ch) (by simp)

theorem measuredInRange_takeUnclassified {s : State} (h : s.MeasuredInRange) :
    (takeUnclassified s).MeasuredInRange := by
  rw [takeUnclassified_frame]
  exact { h with }

theorem measuredInRange_takeReadingFrom (node status : Byte) (raw : Nat) {s : State}
    (h : s.MeasuredInRange) : (takeReadingFrom node status raw s).MeasuredInRange := by
  unfold takeReadingFrom
  split
  · exact measuredInRange_takeReading _ _ _ _ h (Nat.min_le_right _ _)
  · exact measuredInRange_takeUnclassified h

theorem measuredInRange_takeDriveStatusFrom (node : Byte) (st : DriveReply) {s : State}
    (h : s.MeasuredInRange) : (takeDriveStatusFrom node st s).MeasuredInRange := by
  unfold takeDriveStatusFrom
  split
  · rw [takeDriveStatus_frame]
    exact { h with }
  · exact measuredInRange_takeUnclassified h

/-- R45: a miss brings no value. -/
theorem measuredInRange_deliverMiss (tr : Transaction) {s : State} (h : s.MeasuredInRange) :
    (deliverMiss tr s).MeasuredInRange := by
  have fan : ∀ f : Fin 16, (takeFanMiss f s).MeasuredInRange := fun f => by
    rw [takeFanMiss_frame]
    exact { h with }
  unfold deliverMiss
  repeat' split
  · exact measuredInRange_takeChannelMiss _ _ _ h
  · exact h
  · exact fan _
  · exact h
  · exact fan _
  · exact h
  · exact h
  · exact { h with }

theorem measuredInRange_windowExpiry (receiving : Bool) {s : State} (h : s.MeasuredInRange) :
    (windowExpiry receiving s).MeasuredInRange := by
  rcases windowExpiry_cases receiving s with ⟨tr, _, _, e⟩ | ⟨_, e⟩ <;> rw [e]
  · exact measuredInRange_deliverMiss tr { h with }
  · exact h

/-- R54: a sample of the converter has 12 bits. -/
theorem measuredInRange_conversionStep (sample : BitVec 12) {s : State} (h : s.MeasuredInRange) :
    (conversionStep sample s).MeasuredInRange := by
  rcases conversionStep_cases sample s with ⟨i, rest, _, e⟩ | ⟨_, e⟩ <;> rw [e]
  · exact measuredInRange_takeReading _ _ _ _ { h with }
      (Nat.le_of_lt_succ sample.isLt)
  · exact h

/-- A reply keeps the ranges if what it is handed to does. -/
theorem measuredInRange_receiveSouth (t : Telegram) {take : Transaction → State → State} {s : State}
    (h : s.MeasuredInRange) (keeps : ∀ tr u, u.MeasuredInRange → (take tr u).MeasuredInRange) :
    (receiveSouth t take s).MeasuredInRange := by
  rcases receiveSouth_cases t take s with ⟨_, e⟩ | ⟨_, _, tr, _, _, e⟩ | ⟨_, _, e⟩ <;> rw [e]
  · exact h
  · exact keeps tr _ { h with }
  · exact { h with }

/-! ### The evaluation of a zone (R72 to R75, R82, R83) -/

theorem wordAt_le (m : Memory) (k : Nat) : m.wordAt k ≤ 65535 := by
  have high := (m.read k).isLt
  have low := (m.read (k + 1)).isLt
  simp only [Memory.wordAt, Memory.byteAt]
  omega

/-- The largest of a start and of the values of some channels is within a bound that all of them keep. -/
theorem foldl_max_le {chs : Vector ChannelRec 64} {bound : Nat} {l : List (Fin 64)} {start : Nat}
    (first : start ≤ bound) (rest : ∀ j ∈ l, chs[j].value ≤ bound) :
    l.foldl (fun acc j => max acc chs[j].value) start ≤ bound := by
  induction l generalizing start with
  | nil => exact first
  | cons j l ih =>
    exact ih (max_le first (rest j List.mem_cons_self)) fun i hi => rest i (List.mem_cons_of_mem _ hi)

/-- R70: every channel of a gas set is of kind GAS. -/
theorem gas_of_mem_gasSet {m : Memory} {chs : Vector ChannelRec 64} {zone : Nat} {i : Fin 64}
    (h : i ∈ gasSet m chs zone) : (channelOf m i).kind = .gas := by
  simp only [gasSet, zoneChannels, List.mem_filter, Bool.and_eq_true, beq_iff_eq] at h
  exact h.1.2.1

/-- R72: the new value of a zone is that of a GAS channel or the held one. -/
theorem newValue_le {m : Memory} {chs : Vector ChannelRec 64} (zone : Nat) {held : Nat}
    (channels : ∀ i : Fin 64, chs[i].InRange (channelOf m i).kind) (old : held ≤ 1000) :
    newValue m chs zone held ≤ 1000 := by
  have gas : ∀ i ∈ gasSet m chs zone, chs[i].value ≤ 1000 := fun i hi => by
    have value := (channels i).value
    rw [gas_of_mem_gasSet hi] at value
    exact value
  unfold newValue
  split
  · exact old
  · next i rest set =>
    rw [set] at gas
    exact foldl_max_le (gas i List.mem_cons_self) fun j hj => gas j (List.mem_cons_of_mem _ hj)

/-- R73: the filter step ends at the new value or below the old one. -/
theorem filterStep_le {decay new held bound : Nat} (hnew : new ≤ bound) (hheld : held ≤ bound) :
    filterStep decay new held ≤ bound := by
  unfold filterStep
  split
  · exact hnew
  · exact (Nat.sub_le _ _).trans hheld

/-- R74: the ring holds its newest six entries. -/
theorem length_ringAppend_le (ring : List Nat) (v : Nat) : (ringAppend ring v).length ≤ 6 := by
  simp only [ringAppend, List.length_drop]
  omega

theorem mem_ringAppend {ring : List Nat} {v w : Nat} (h : w ∈ ringAppend ring v) : w ∈ ring ∨ w = v := by
  simpa using List.mem_of_mem_drop h

/-- R75: the difference of two entries of a ring is within the bound of its entries. -/
theorem ringRate_bounds {ring : List Nat} (h : ∀ v ∈ ring, v ≤ 1000) :
    -1000 ≤ ringRate ring ∧ ringRate ring ≤ 1000 := by
  have newest : ring.getLastD 0 ≤ 1000 := by
    cases ring with
    | nil => exact Nat.zero_le _
    | cons v l => exact h _ (by rw [List.getLastD_cons]; exact List.getLastD_mem_cons)
  have oldest : ring.headD 0 ≤ 1000 := by
    cases ring with
    | nil => exact Nat.zero_le _
    | cons v l => exact h v List.mem_cons_self
  simp only [ringRate]
  omega

/-- R83: the required airflow is the generation airflow, a floor or the spill airflow. -/
theorem requiredAirflow_le {e : ZoneEntry} {effective : Band} (spill : Bool) {qGen : Nat}
    (generation : qGen ≤ 65535) (floor : e.floor effective ≤ 65535) (spillFlow : e.qS ≤ 65535) :
    requiredAirflow e effective spill qGen ≤ 65535 := by
  unfold requiredAirflow
  split
  · exact Nat.le_refl _
  · refine max_le (max_le generation floor) ?_
    split
    · exact spillFlow
    · exact Nat.zero_le _

theorem floor_zoneOf_le (m : Memory) (zone : Nat) (band : Band) : (zoneOf m zone).floor band ≤ 65535 := by
  cases band
  · exact wordAt_le _ _
  · exact wordAt_le _ _
  · exact wordAt_le _ _
  · exact Nat.le_refl _

/-- R69 to R83: an evaluation leaves a zone's record in range. -/
theorem evaluateZone_inRange {m : Memory} {chs : Vector ChannelRec 64} (zone : Nat) (source : SourceState)
    {r : ZoneRec} (channels : ∀ i : Fin 64, chs[i].InRange (channelOf m i).kind) (h : r.InRange) :
    (evaluateZone m chs zone source r).InRange := by
  have held : (evaluateZone m chs zone source r).held ≤ 1000 :=
    filterStep_le (newValue_le zone channels h.held) h.held
  have ring : ∀ v ∈ (evaluateZone m chs zone source r).ring, v ≤ 1000 := fun v hv => by
    rcases mem_ringAppend hv with old | new
    · exact h.ring v old
    · rw [new]; exact held
  have qGen : (evaluateZone m chs zone source r).qGen ≤ 65535 := Nat.min_le_right _ _
  exact ⟨held, length_ringAppend_le _ _, ring, ringRate_bounds ring, qGen,
    requiredAirflow_le _ qGen (floor_zoneOf_le _ _ _) (wordAt_le _ _)⟩

/-! ### The cycle (R18 to R21, R98, R187, R188) -/

/-- R19: the cycle number goes from 65535 to 0. -/
theorem measuredInRange_cycleStart {s : State} (h : s.MeasuredInRange) : (cycleStart s).MeasuredInRange :=
  measuredInRange_of_records (by simpa using h.channel) (by simpa using h.zone) (by simpa using h.tach)
    (by simp only [cycleStart_scan]; omega) (by simpa using h.interleave)

theorem measuredInRange_timerExpiry {s : State} (h : s.MeasuredInRange) :
    (timerExpiry s).MeasuredInRange := by
  unfold timerExpiry
  repeat' split
  · exact h.congr (by constructor <;> simp [setOverrun, State.tables])
  · exact measuredInRange_cycleStart h
  · exact h

/-- R20, R69, R98: the work of a close evaluates the zones and sets the tach counts to 0. -/
theorem measuredInRange_closeWork {s : State} (h : s.MeasuredInRange) : (closeWork s).MeasuredInRange := by
  have tach : ∀ k : Fin 4, (closeWork s).pwm.tach[k] ≤ 65535 := fun k => by
    rw [(closeWork_pwm_running s).1]
    simp
  refine measuredInRange_of_records (fun i => ?_) (fun z => ?_) tach ?_ ?_
  · rw [closeWork_tables, closeWork_frame]
    exact h.channel i
  · rw [closeWork_zone]
    split
    · have new := evaluateZone_inRange (m := s.tables) z s.alarm.sources[spillSource z].state h.channel
        (h.zone z)
      exact ⟨new.held, new.ringLength, new.ring, new.rate, new.qGen, new.qReq⟩
    · exact h.zone z
  · rw [closeWork_frame]; exact h.cycle
  · rw [closeWork_frame]; exact h.interleave

/-- R188: two banks that agree in an entry's bytes give its channel the same kind. -/
theorem channelOf_kind_of_agrees {m n : Memory} {i : Fin 64}
    (agrees : recordDiffers n m (channelAt i) 16 = false) :
    (channelOf n i).kind = (channelOf m i).kind := by
  have first : n.read (channelAt i) = m.read (channelAt i) := by
    simp only [recordDiffers, List.any_eq_false, List.mem_range, bne_iff_ne, ne_eq, not_not] at agrees
    exact agrees 0 (by omega)
  simp only [channelOf, Memory.byteAt, first]

theorem swapAtClose_tables (s : State) : (swapAtClose s).tables = s.banks.standbyBank :=
  tables_of_active (swapAtClose_active s)

/-- R62, R88, R187: a swap resets the records whose entries change, and the others keep their kinds. -/
theorem measuredInRange_swapAtClose {s : State} (h : s.MeasuredInRange) :
    (swapAtClose s).MeasuredInRange := by
  refine measuredInRange_of_records (fun i => ?_) (fun z => ?_) ?_ ?_ ?_
  · rw [swapAtClose_tables, swapAtClose_channels, reinitChanged, fin_getElem_mapFin]
    cases differs : recordDiffers s.banks.standbyBank s.tables (channelAt i) 16
    · rw [if_neg (by simp), channelOf_kind_of_agrees differs]
      exact h.channel i
    · exact inRange_initialChannel _
  · rw [swapAtClose_zones, reinitChanged, fin_getElem_mapFin]
    split
    · exact inRange_initialZone
    · exact h.zone z
  · rw [swapAtClose_tach]; exact h.tach
  · rw [swapAtClose_frame]; exact h.cycle
  · rw [swapAtClose_frame]; exact h.interleave

theorem measuredInRange_purgeExpiry {s : State} (h : s.MeasuredInRange) :
    (purgeExpiry s).MeasuredInRange := by
  rw [purgeExpiry_frame]
  exact { h with }

theorem measuredInRange_closeCycle {s : State} (h : s.MeasuredInRange) : (closeCycle s).MeasuredInRange := by
  have swap : (closeSwap (closeWork s)).MeasuredInRange := by
    rcases closeSwap_cases (closeWork s) with ⟨_, e⟩ | ⟨_, e⟩ <;> rw [e]
    · exact measuredInRange_swapAtClose (measuredInRange_closeWork h)
    · exact measuredInRange_closeWork h
  have purge : (closePurge (closeSwap (closeWork s))).MeasuredInRange := by
    rcases closePurge_cases (closeSwap (closeWork s)) with ⟨_, _, e⟩ | ⟨_, e⟩ <;> rw [e]
    · exact measuredInRange_purgeExpiry swap
    · exact swap
  simp only [closeCycle]
  split
  · exact measuredInRange_cycleStart purge
  · exact purge

/-! ### Requests and arrivals (R175, R178) -/

/-- The active bank is that of the selection and the two banks' bytes. -/
theorem activeBank_congr {b c : BankManager} (active : c.active = b.active) (bankA : c.bankA = b.bankA)
    (bankB : c.bankB = b.bankB) : c.activeBank = b.activeBank := by
  have bank : c.bank = b.bank := by
    funext id
    cases id
    · exact bankA
    · exact bankB
  rw [BankManager.activeBank, BankManager.activeBank, active, bank]

/-- R175, R178: the standby bank's bytes are not the active bank's. -/
theorem writeStandby_activeBank (start : Nat) (bytes : List Byte) (b : BankManager) :
    (writeStandby start bytes b).activeBank = b.activeBank := by
  cases active : b.active with
  | none => simp [writeStandby, BankManager.standbyId, BankManager.activeBank, active]
  | some id =>
    cases id <;> simp [writeStandby, BankManager.standbyId, BankManager.activeBank, BankManager.bank, active]

theorem serveTableWrite_activeBank (fields : List Byte) (s : State) :
    (serveTableWrite fields s).banks.activeBank = s.banks.activeBank := by
  simp only [serveTableWrite]
  repeat' split
  case h_2.isFalse.isFalse => exact writeStandby_activeBank _ _ _
  all_goals rfl

/-- R178: a request leaves the active bank. -/
theorem serveRequest_activeBank (payload : List Byte) (s : State) :
    (serveRequest payload s).banks.activeBank = s.banks.activeBank := by
  unfold serveRequest
  repeat' split
  · rfl
  · exact serveTableWrite_activeBank _ s
  · rw [serveTableRead_frame]
  · rw [serveActivate_frame]; exact activeBank_congr rfl rfl rfl
  · rw [serveAcknowledge_frame]
  · rw [serveStatus_frame]
  · rw [serveReadChannels_frame]
  · rw [serveReadZone_frame]
  · rw [serveReadFan_frame]
  · rw [serveRestart_frame]; exact activeBank_congr rfl rfl rfl
  · rfl

/-- R178: an arrived telegram leaves the active bank. -/
theorem receiveNorth_activeBank (t : Telegram) (s : State) :
    (receiveNorth t s).banks.activeBank = s.banks.activeBank := by
  have banks : (reserveReply s.afterArrival).banks = s.banks := by
    rw [reserveReply_banks, afterArrival_frame]
  rcases receiveNorth_cases t s with ⟨_, e⟩ | ⟨_, _, e⟩ | ⟨_, _, _, ⟨_, e⟩ | ⟨_, _, e⟩ | ⟨_, _, e⟩⟩ <;>
    rw [e]
  · rw [afterArrival_frame]
  · unfold dispatchOwn
    split
    · rw [serveRequest_activeBank, banks]
    · exact congrArg BankManager.activeBank banks
  · rw [dispatchNode_frame]
    exact congrArg BankManager.activeBank banks

theorem measuredInRange_receiveNorth (t : Telegram) {s : State} (h : s.MeasuredInRange) :
    (receiveNorth t s).MeasuredInRange := by
  have tables : (receiveNorth t s).tables = s.tables := by
    rw [State.tables, State.tables, receiveNorth_activeBank]
  refine h.congr ⟨tables, ?_, ?_, ?_, ?_, ?_⟩ <;> rw [receiveNorth_frame]

/-! ### Activation and resets (R19, R61, R87, R98) -/

/-- R63, R90: a first activation resets every record and starts the next cycle. -/
theorem measuredInRange_firstActivation {s : State} (h : s.MeasuredInRange) :
    (firstActivation s).MeasuredInRange := by
  refine measuredInRange_of_initial ?_ ?_ (fun k => ?_) ?_ ?_
  · simp [firstActivation, enterPurge]
  · simp [firstActivation, enterPurge]
  · simp [firstActivation, enterPurge]
  · simp only [firstActivation, enterPurge, evalRelays_scan, cycleStart_scan]
    omega
  · simpa [firstActivation, enterPurge] using h.interleave

theorem measuredInRange_checkEndStep {s : State} (h : s.MeasuredInRange) :
    (checkEndStep s).MeasuredInRange := by
  have same : ∀ t : State, t.banks.activeBank = s.banks.activeBank → t.store = s.store →
      t.zones = s.zones → t.pwm = s.pwm → t.scan = s.scan → t.MeasuredInRange :=
    fun t bank store zones pwm scan => h.congr ⟨congrArg (·.getD []) bank, by rw [store], zones, by rw [pwm],
      by rw [scan], by rw [scan]⟩
  unfold checkEndStep checkEnd
  repeat' split
  · exact same _ (activeBank_congr rfl rfl rfl) rfl rfl rfl rfl
  · exact same _ (activeBank_congr rfl rfl rfl) rfl rfl rfl rfl
  · exact measuredInRange_firstActivation h
  · exact same _ (activeBank_congr rfl rfl rfl) rfl rfl rfl rfl
  · exact h

/-- R126: a part at its cold-reset values is in range. -/
theorem measuredInRange_reset {s : State} (store : s.store = ChannelStore.initial)
    (zones : s.zones = Vector.replicate 8 ZoneRec.initial) (pwm : s.pwm = PwmUnit.initial)
    (scan : s.scan = ScanEngine.initial) : s.MeasuredInRange :=
  measuredInRange_of_initial (by rw [store]; rfl) zones
    (fun k => by rw [pwm]; simp [PwmUnit.initial]) (by rw [scan]; exact Nat.zero_le _)
    (by rw [scan]; exact Nat.zero_le _)

theorem measuredInRange_releaseHold (release : Release) {s : State} (h : s.MeasuredInRange) :
    (releaseHold release s).MeasuredInRange := by
  rcases releaseHold_cases release s with ⟨_, e⟩ | ⟨_, _, e⟩ | ⟨_, _, e⟩ <;> rw [e]
  · exact h
  · exact { h with }
  · exact measuredInRange_reset rfl rfl rfl rfl

/-- R127: a warm reset sets every record and the tach counts to their reset values. -/
theorem measuredInRange_warmReset (s : State) : (warmReset s).MeasuredInRange := by
  obtain ⟨store, zones, _, tach, _⟩ := warmReset_blocks s
  have scan : (warmReset s).scan.cycle ≤ 65535 ∧ (warmReset s).scan.interleave ≤ 16 := by
    by_cases active : s.banks.active = none
    · rw [warmReset_of_none active]
      simp [warmBlocks, State.reset, ScanEngine.initial]
    · rw [(warmReset_starts active).2.1]
      simp
  exact measuredInRange_of_initial (by rw [store]; rfl) zones (fun k => by rw [tach]; simp) scan.1 scan.2

/-! ### The south arbiter and the pins (R31, R98) -/

/-- R31: the interleave count stops at 16. -/
theorem measuredInRange_openScan (i : Nat) {s : State} (h : s.MeasuredInRange) :
    (openScan i s).MeasuredInRange :=
  measuredInRange_of_records h.channel h.zone h.tach h.cycle (Nat.min_le_right _ _)

theorem measuredInRange_openRelay (e : RelayEntry) {s : State} (h : s.MeasuredInRange) :
    (openRelay e s).MeasuredInRange :=
  measuredInRange_of_records h.channel h.zone h.tach h.cycle (Nat.zero_le _)

theorem measuredInRange_openFanDrive (f : Fin 16) {s : State} (h : s.MeasuredInRange) :
    (openFanDrive f s).MeasuredInRange :=
  { h with }

theorem measuredInRange_clearStrayFlags {s : State} (h : s.MeasuredInRange) :
    (clearStrayFlags s).MeasuredInRange :=
  h.congr ⟨rfl, rfl, rfl, rfl, rfl, rfl⟩

/-- R98: a tach count stops at 65535. -/
theorem measuredInRange_countPulse (k : Fin 4) {s : State} (h : s.MeasuredInRange) :
    (countPulse k s).MeasuredInRange := by
  refine measuredInRange_of_records h.channel h.zone (fun j => ?_) h.cycle h.interleave
  simp only [countPulse, fin_getElem_set]
  split
  · exact Nat.min_le_right _ _
  · exact h.tach j

/-! ### All commands -/

theorem effect_keeps_measuredInRange (c : Instr) {s : State} (h : s.MeasuredInRange) :
    (effect c s).MeasuredInRange := by
  cases c with
  | coldReset r => exact measuredInRange_releaseHold r h
  | resetHold k =>
    simp only [effect]
    split
    · exact measuredInRange_reset rfl rfl rfl rfl
    · exact h
  | warmReset =>
    simp only [effect]
    split
    · exact measuredInRange_warmReset s
    · exact h
  | tableWrite | tableRead | activate | acknowledge | status | readChannels | readZone | readFan | restart
  | driveSet | command | dispatchBadRequest | unknownRequest => exact measuredInRange_receiveNorth _ h
  | reading => exact measuredInRange_receiveSouth _ h fun _ _ => measuredInRange_takeReadingFrom _ _ _
  | driveStatus => exact measuredInRange_receiveSouth _ h fun _ _ => measuredInRange_takeDriveStatusFrom _ _
  | answer =>
    refine measuredInRange_receiveSouth _ h fun tr u hu => ?_
    rw [takeAnswer_frame]
    exact { hu with }
  | replyWindowExpiry receiving => exact measuredInRange_windowExpiry receiving h
  | localConversionComplete sample => exact measuredInRange_conversionStep sample h
  | cycleTimerExpiry => exact measuredInRange_timerExpiry h
  | cycleClose =>
    simp only [effect]
    split
    · exact measuredInRange_closeCycle h
    · exact h
  | fanDrive =>
    rcases fanDriveStep_cases s with ⟨_, f, _, e⟩ | ⟨_, _, e⟩ | ⟨_, e⟩ <;> simp only [effect, e]
    · exact measuredInRange_openFanDrive f (measuredInRange_clearStrayFlags h)
    · exact measuredInRange_clearStrayFlags h
    · exact h
  | relayTransaction =>
    rcases relayStep_cases s with ⟨_, entry, _, e⟩ | ⟨_, e⟩ <;> simp only [effect, e]
    · exact measuredInRange_openRelay entry (measuredInRange_clearStrayFlags h)
    · exact h
  | scanTransaction =>
    rcases scanStep_cases s with ⟨_, i, _, e⟩ | ⟨_, e⟩ <;> simp only [effect, e]
    · exact measuredInRange_openScan i (measuredInRange_clearStrayFlags h)
    · exact h
  | southRateChange =>
    rcases southRateStep_cases s with ⟨_, _, _, e⟩ | ⟨_, e⟩ <;> simp only [effect, e]
    · exact { h with }
    · exact h
  | northChoice =>
    simp only [effect]
    rw [northChoiceStep_frame]
    exact { h with }
  | northTransmissionEnd receiving =>
    simp only [effect]
    rw [northSent_frame]
    exact h.congr ⟨congrArg (·.getD []) (activeBank_congr rfl rfl rfl), rfl, rfl, rfl, rfl, rfl⟩
  | activationCheckEnd => exact measuredInRange_checkEndStep h
  | purgeTimerExpiry =>
    rcases purgeTimerStep_cases s with ⟨_, _, e⟩ | e <;> simp only [effect, e]
    · exact measuredInRange_purgeExpiry h
    · exact h
  | supervisorSilenceExpiry =>
    rcases silenceExpiry_cases s with ⟨_, _, e⟩ | ⟨_, e⟩ <;> simp only [effect, e]
    · exact h.congr (by constructor <;> simp)
    · exact h
  | tachPulse k => exact measuredInRange_countPulse k h
  | pwmPeriodEnd => exact { h with }
  | lineIdle line =>
    simp only [effect]
    rw [idleStep_frame]
    exact { h with }
  | telegramAbandoned line cause =>
    rcases abandonStep_cases line cause s with ⟨_, e⟩ | ⟨_, e⟩ <;> simp only [effect, e]
    · rw [endReception_frame]
      exact { h with }
    · exact h
  | discardedTelegram line chars =>
    rcases discardStep_cases line chars s with ⟨_, _, e⟩ | ⟨_, e⟩ <;> simp only [effect, e]
    · rw [endReception_frame]
      exact { h with }
    · exact h
  | southTransmissionEnd =>
    rcases southSent_cases s with ⟨_, e⟩ | ⟨_, e⟩ <;> simp only [effect, e]
    · exact { h with }
    · exact h

/-- Settles O13, by the case split over the commands in `effect_keeps_measuredInRange`. -/
theorem stepKeepsMeasuredInRange : Obligations.StepKeepsMeasuredInRange :=
  step_keeps (fun _ _ h => { h with })
    fun c _ _ h => effect_keeps_measuredInRange c h

end Sys2Proof.Machine
end

section
/-! Unclassified replies and ANSWERs. Settles UnclassifiedReplySetsTheMark and AnswerEndsTheRelay. -/

namespace Sys2Proof.Machine

/-! ### Unclassified replies (R25, R43, R136) -/

/-- R131: a handed condition moves the source of its index alone. -/
theorem handCondition_source_val (i j : Fin 77) (holds : Bool) (s : State) :
    (handCondition i holds s).alarm.sources[j] =
      if j.val = i.val then SourceRec.handed (s.policy.cls j) holds s.alarm.sources[j]
      else s.alarm.sources[j] := by
  rw [handCondition_source]
  by_cases same : j = i
  · subst same; simp
  · rw [if_neg same, if_neg fun c => same (Fin.ext c)]

/-- R43: an unclassified reply makes the UNCLASSIFIED condition hold. -/
theorem takeUnclassified_source (s : State) (i : Fin 77) :
    (takeUnclassified s).alarm.sources[i] =
      if i.val = 76 then SourceRec.handed (s.policy.cls i) true s.alarm.sources[i]
      else s.alarm.sources[i] := by
  rw [takeUnclassified, evalRelays_sources, handCondition_source_val]
  rfl

/-- R25: a READING that answers the open SCAN POLL is handed on. -/
theorem exec_reading_of_poll {s : State} {tr : Transaction} {status : Byte} (raw : BitVec 16)
    (ready : s.southOpen) (slot : s.scan.slot = some tr) (poll : tr.purpose = .scanPoll)
    (known : status.toNat ≤ 2) :
    exec (.reading 0#8 tr.node status raw) s =
      .next (takeReadingFrom tr.node status raw.toNat s.afterReply) := by
  obtain ⟨held, rx⟩ := ready
  rw [exec_of_running _ held]
  refine congrArg _ (receiveSouth_answer rx slot ?_ ?_)
  · rw [passesR9_reading]; exact decide_eq_true known
  · rw [answersOpen_iff, poll]; exact ⟨rfl, rfl, rfl⟩

/-- R25: a DRIVE STATUS that answers the open SCAN QUERY or FAN DRIVE is handed on. -/
theorem exec_driveStatus_of_drive {s : State} {tr : Transaction} (running feedback fault : Byte)
    (ready : s.southOpen) (slot : s.scan.slot = some tr)
    (drive : tr.purpose = .scanQuery ∨ tr.purpose = .fanDrive) :
    exec (.driveStatus 0#8 tr.node running feedback fault) s =
      .next (takeDriveStatusFrom tr.node (driveReplyOf running feedback fault) s.afterReply) := by
  obtain ⟨held, rx⟩ := ready
  rw [exec_of_running _ held]
  refine congrArg _ (receiveSouth_answer rx slot rfl ?_)
  rw [answersOpen_iff]
  refine ⟨rfl, rfl, ?_⟩
  rcases drive with h | h <;> rw [h] <;> rfl

/-- Settles O35: whichever reply it is, it is handed on and no window classifies it. -/
theorem unclassifiedReplySetsTheMark : Obligations.UnclassifiedReplySetsTheMark := by
  intro s tr c ready slot reply
  have taken : exec c s = .next (takeUnclassified s.afterReply) := by
    rcases reply with ⟨status, raw, rfl, known, poll, outside⟩ | ⟨running, feedback, fault, rfl, drive, outside⟩
    · rw [exec_reading_of_poll raw ready slot poll known, takeReadingFrom, afterReply_tables,
        classifyChannel_of_unclassified outside]
    · rw [exec_driveStatus_of_drive _ _ _ ready slot drive, takeDriveStatusFrom, afterReply_tables,
        classifyFan_of_unclassified outside]
  exact ⟨takeUnclassified s.afterReply, taken, takeUnclassified_frame _,
    takeUnclassified_source s.afterReply, evalRelays_follow _⟩

/-! ### ANSWERs (R25, R171, R172) -/

/-- R9: an ANSWER passes with a payload of at most 48 characters. -/
theorem passesR9_answer (dest source : Byte) {payload : List Byte} (short : payload.length ≤ 48) :
    passesR9 .south { dest, source, kind := .answer, payload } = true := by
  simp [passesR9, payloadLengthOk, short]

/-- R25: an ANSWER that answers the open relay is handed on. -/
theorem exec_answer_of_relay {s : State} {tr : Transaction} {payload : List Byte} (ready : s.southOpen)
    (slot : s.scan.slot = some tr) (short : payload.length ≤ 48) (relay : tr.purpose.expects = .answer) :
    exec (.answer 0#8 tr.node payload) s = .next (takeAnswer tr payload s.afterReply) := by
  obtain ⟨held, rx⟩ := ready
  rw [exec_of_running _ held]
  refine congrArg _ (receiveSouth_answer rx slot (passesR9_answer _ _ short) ?_)
  rw [answersOpen_iff]
  exact ⟨rfl, rfl, relay.symm⟩

/-- Settles O37, by the mode of the relay that the ANSWER ends. -/
theorem answerEndsTheRelay : Obligations.AnswerEndsTheRelay := by
  intro s tr payload ready slot short
  refine ⟨fun posted => ?_, fun kind confirmed => ?_⟩
  · rw [exec_answer_of_relay ready slot short (by rw [posted]; rfl)]
    simp only [takeAnswer, posted]
  · rw [exec_answer_of_relay ready slot short (by rw [confirmed]; rfl)]
    simp only [takeAnswer, confirmed, respondRelay, respond_frame]
    cases kind <;> rfl

end Sys2Proof.Machine
end

section
/-! The cycle timer and the plain close. Settles CycleTimerExpiryStartsOrOverruns, CloseHandsTheConditions
and CloseEndsTheCycle. -/

namespace Sys2Proof.Machine

/-! ### The expiry of the cycle timer (R16 to R19, R21, R134) -/

/-- R16 to R19, R54: a cycle start, with the wrap of the cycle number written out. -/
theorem cycleStart_eq_started {s : State} (bound : s.scan.cycle ≤ 65535) : cycleStart s = s.started := by
  have next : (s.scan.cycle + 1) % 65536 = if s.scan.cycle = 65535 then 0 else s.scan.cycle + 1 := by
    split <;> omega
  rw [cycleStart, next, conversionList_eq, State.started]

theorem setOverrun_frame (s : State) :
    setOverrun s =
      { s with
        scan := { s.scan with timer := .expired, overrun := true }, alarm := (setOverrun s).alarm } := by
  ext1 <;> simp [setOverrun]

/-- R21, R134: a timer that expires in an open cycle makes SCAN OVERRUN hold. -/
theorem setOverrun_source (s : State) (i : Fin 77) :
    (setOverrun s).alarm.sources[i] =
      if i.val = 74 then SourceRec.handed (s.policy.cls i) true s.alarm.sources[i]
      else s.alarm.sources[i] := by
  rw [setOverrun, evalRelays_sources, handCondition_source_val]
  rfl

/-- Settles O44, by whether the cycle of the timer has closed. -/
theorem cycleTimerExpiryStartsOrOverruns : Obligations.CycleTimerExpiryStartsOrOverruns := by
  intro s period held running
  have taken : exec .cycleTimerExpiry s = .next (if s.scan.cycleOpen then setOverrun s else cycleStart s) := by
    rw [exec_of_running _ held]
    simp only [effect, timerExpiry, running]
  refine ⟨fun closed bound => ?_, fun open_ => ⟨setOverrun s, ?_, setOverrun_frame s, setOverrun_source s, ?_⟩⟩
  · rw [taken, closed, cycleStart_eq_started bound]
    rfl
  · rw [taken, open_, if_pos rfl]
  · exact evalRelays_follow _

/-! ### The conditions of the zones (R85, R86, R102) -/

theorem zoneTripped_iff (s : State) (z : Nat) :
    zoneTripped s.tables s.store.channels z = true ↔ s.tripped z := by
  simp only [zoneTripped, zoneChannels, State.tripped, ChannelRec.usable, List.any_eq_true, List.mem_filter,
    List.mem_finRange, true_and, Bool.and_eq_true, Bool.or_eq_true, beq_iff_eq, decide_eq_true_eq, and_assoc]

theorem fanFail_iff (s : State) (z : Nat) :
    fanFail s.tables s.alloc.fans z = true ↔
      ∃ f : Fin 16, (fanOf s.tables f).enable = true ∧ (fanOf s.tables f).zone = z ∧
        s.alloc.fans[f].health = .failed := by
  simp only [fanFail, List.any_eq_true, List.mem_finRange, true_and, Bool.and_eq_true, beq_iff_eq, and_assoc]

theorem headFault_iff (s : State) (z : Nat) :
    headFault s.tables s.store.channels z = true ↔
      ∃ i : Fin 64, (channelOf s.tables i).kind ≠ .none ∧ (channelOf s.tables i).zone = z ∧
        s.store.channels[i].health = .failed := by
  simp only [headFault, List.any_eq_true, List.mem_finRange, true_and, Bool.and_eq_true, beq_iff_eq,
    bne_iff_ne, and_assoc]

/-- R85, R102: the condition that is handed for a zone and a zone kind is the one the statements name. -/
theorem zoneCondition_iff (s : State) (z : Fin 8) (k : Fin 9) :
    zoneCondition s z k.val = true ↔ s.zoneHolds z k := by
  unfold zoneCondition State.zoneHolds
  rw [Bool.and_eq_true]
  refine and_congr_right fun _ => ?_
  match k with
  | 0 => cases s.zones[z].stored <;> simp [bandCode]
  | 1 => cases s.zones[z].stored <;> simp [bandCode]
  | 2 => exact beq_iff_eq
  | 3 => simp [rateCondition]
  | 4 => exact Iff.rfl
  | 5 => exact zoneTripped_iff s z
  | 6 => exact Iff.rfl
  | 7 => exact fanFail_iff s z
  | 8 => exact headFault_iff s z

/-- R130: the sources of a zone are nine in a row. -/
theorem sourceCondition_zoneSource (s : State) (z : Fin 8) (k : Fin 9) :
    sourceCondition s (zoneSource z k) = zoneCondition s z k.val := by
  have inside : 9 * z.val + k.val < 72 := by omega
  have zone : (9 * z.val + k.val) / 9 = z.val := by omega
  have kind : (9 * z.val + k.val) % 9 = k.val := by omega
  simp only [sourceCondition, zoneSource, inside, dite_true, zone, kind]

/-- The conditions read the tables, the zones, the fans and the channels alone. -/
theorem sourceCondition_congr {s t : State} (tables : t.tables = s.tables) (zones : t.zones = s.zones)
    (fans : t.alloc.fans = s.alloc.fans) (channels : t.store.channels = s.store.channels) :
    sourceCondition t = sourceCondition s := by
  funext i
  simp only [sourceCondition, zoneCondition, tables, zones, fans, channels]

/-! ### The sources after the work of a close (R21, R44, R132) -/

/-- R21: a close is late unless its timer runs. -/
theorem closeIsLate_eq_false_iff (s : State) :
    closeIsLate s = false ↔ ∃ p, s.scan.timer = .running p := by
  unfold closeIsLate
  cases s.scan.timer <;> simp

/-- R21: a close before its timer's expiry hands SCAN OVERRUN over as not holding. -/
theorem closeScan_source (s : State) (i : Fin 77) :
    (closeScan s).alarm.sources[i] =
      if i.val = 74 ∧ closeIsLate s = false then SourceRec.handed (s.policy.cls i) false s.alarm.sources[i]
      else s.alarm.sources[i] := by
  rw [closeScan_alarm]
  cases closeIsLate s
  · rw [if_neg (by simp), handCondition_source_val]
    simp only [and_true]
    rfl
  · simp

/-- R44: a clear mark hands UNCLASSIFIED over as not holding. -/
theorem settleUnclassified_source (s : State) (i : Fin 77) :
    (settleUnclassified s).alarm.sources[i] =
      if i.val = 76 ∧ s.store.unclassifiedMark = false then
        SourceRec.handed (s.policy.cls i) false s.alarm.sources[i]
      else s.alarm.sources[i] := by
  simp only [settleUnclassified]
  by_cases mark : s.store.unclassifiedMark = true
  · simp only [mark, if_true, Bool.true_eq_false, and_false, if_false]
  · rw [Bool.not_eq_true] at mark
    simp only [mark, Bool.false_eq_true, if_false, and_true]
    exact handCondition_source_val sourceUnclassified i false _

/-- The part as the Alarm Unit reads it at a close: the zones evaluated and the fans worked. -/
def State.closeWorked (s : State) : State := allocatorWork (evaluateZones (closeScan s))

theorem closeWork_eq (s : State) :
    closeWork s = evalRelays (settleUnclassified (takeZoneConditions s.closeWorked)) := rfl

theorem closeWorked_frame (s : State) :
    s.closeWorked.alarm = (closeScan s).alarm ∧ s.closeWorked.store = s.store ∧
      s.closeWorked.banks = s.banks := by
  rw [State.closeWorked, allocatorWork_frame]
  simp only [evaluateZones_alarm, evaluateZones_store, evaluateZones_banks, true_and]
  rw [closeScan_frame]
  exact ⟨rfl, rfl⟩

/-- R132: the conditions that a close hands are those of the records it leaves. -/
theorem closeWorked_condition (s : State) : sourceCondition s.closeWorked = sourceCondition (closeWork s) := by
  refine sourceCondition_congr ?_ ?_ ?_ ?_ <;> rw [closeWork_eq, settleUnclassified_frame] <;>
    simp [takeZoneConditions, State.tables]

/-- R21, R44, R132: the sources after the work of a close. -/
theorem closeWork_source (s : State) (i : Fin 77) :
    (closeWork s).alarm.sources[i] =
      if i.val < 72 then
        SourceRec.handed (s.policy.cls i) (sourceCondition (closeWork s) i) s.alarm.sources[i]
      else if (i.val = 74 ∧ closeIsLate s = false) ∨ (i.val = 76 ∧ s.store.unclassifiedMark = false) then
        SourceRec.handed (s.policy.cls i) false s.alarm.sources[i]
      else s.alarm.sources[i] := by
  obtain ⟨alarm, store, banks⟩ := closeWorked_frame s
  have policy : s.closeWorked.policy = s.policy := by rw [State.policy, State.policy, banks]
  have condition := closeWorked_condition s
  rw [closeWork_eq] at condition ⊢
  rw [evalRelays_sources, settleUnclassified_source, ← condition, takeZoneConditions, handZoneConditions_source,
    handZoneConditions_policy, handZoneConditions_store, policy, store, alarm, closeScan_source]
  by_cases zone : i.val < 72
  · simp only [zone, if_true, show i.val ≠ 74 by omega, show i.val ≠ 76 by omega, false_and, if_false]
  · by_cases overrun : i.val = 74
    · simp [overrun]
    · simp [zone, overrun]

/-! ### The plain close (R20, R21) -/

theorem exec_cycleClose_of_plain {s : State} (h : s.plainClose) :
    exec .cycleClose s = .next (if closeIsLate s then cycleStart (closeWork s) else closeWork s) := by
  rw [exec_cycleClose_of_ready h.1, closeCycle_of_plain h]

/-- A cycle start after a close writes the scan and the converter alone. -/
theorem plainClose_frame {s t : State} (h : t = if closeIsLate s then cycleStart (closeWork s) else closeWork s) :
    t = { closeWork s with scan := t.scan, converter := t.converter } := by
  rw [h]
  split <;> rfl

/-- The conditions of the zones are those of a state's records. -/
theorem sourceCondition_of_zoneHolds {s : State} {z : Fin 8} {k : Fin 9} {holds : Bool}
    (h : holds = true ↔ s.zoneHolds z k) : sourceCondition s (zoneSource z k) = holds := by
  rw [sourceCondition_zoneSource]
  exact Bool.eq_iff_iff.2 ((zoneCondition_iff s z k).trans h.symm)

/-- Settles O48: a cycle start leaves the sources and what the conditions read as the close's work does. -/
theorem closeHandsTheConditions : Obligations.CloseHandsTheConditions := by
  intro s plain
  obtain ⟨t, after⟩ : ∃ t, t = if closeIsLate s then cycleStart (closeWork s) else closeWork s := ⟨_, rfl⟩
  have frame := plainClose_frame after
  have source : ∀ i : Fin 77, t.alarm.sources[i] = (closeWork s).alarm.sources[i] := fun i => by rw [frame]
  have condition : sourceCondition t = sourceCondition (closeWork s) := by
    rw [frame]; exact sourceCondition_congr rfl rfl rfl rfl
  have device : ∀ i : Fin 77, 72 ≤ i.val → i.val ≠ 74 → i.val ≠ 76 →
      t.alarm.sources[i] = s.alarm.sources[i] := fun i above overrun unclassified => by
    rw [source, closeWork_source, if_neg (by omega), if_neg (by simp [overrun, unclassified])]
  refine ⟨t, by rw [exec_cycleClose_of_plain plain, ← after], fun z k holds h => ?_,
    device _ (by decide) (by decide) (by decide), device _ (by decide) (by decide) (by decide),
    device _ (by decide) (by decide) (by decide), ?_, ?_, ?_⟩
  · have inside : (zoneSource z k).val < 72 := by simp only [zoneSource]; omega
    rw [source, closeWork_source, if_pos inside, ← condition, sourceCondition_of_zoneHolds h]
  · rw [source, closeWork_source, if_neg (by decide)]
    by_cases late : closeIsLate s = false
    · obtain ⟨p, running⟩ := (closeIsLate_eq_false_iff s).1 late
      rw [if_pos (.inl ⟨rfl, late⟩)]
      simp only [running]
    · rw [if_neg (by simp [late, sourceOverrun])]
      split
      · next p running => exact absurd ((closeIsLate_eq_false_iff s).2 ⟨p, running⟩) late
      · rfl
  · rw [source, closeWork_source, if_neg (by decide)]
    by_cases mark : s.store.unclassifiedMark = true <;> simp [mark, sourceUnclassified]
  · exact relaysFollow_of_same (s := closeWork s) (evalRelays_follow _) (by rw [frame]) (by rw [frame])

/-- R20, R21: the scan after the work of a close whose timer runs, and of a late one. -/
theorem closeWork_scan (s : State) :
    (closeWork s).scan = { s.scan with
      cycleOpen := false, scanPos := none, overrun := s.scan.overrun && closeIsLate s } := by
  rw [closeWork_frame]

/-- Settles O49: the frame of the close's work, and of the cycle start that follows a late close. -/
theorem closeEndsTheCycle : Obligations.CloseEndsTheCycle := by
  intro s plain bound
  obtain ⟨t, after⟩ : ∃ t, t = if closeIsLate s then cycleStart (closeWork s) else closeWork s := ⟨_, rfl⟩
  have frame := plainClose_frame after
  refine ⟨t, by rw [exec_cycleClose_of_plain plain, ← after], ?_, fun p running => ?_, fun expired => ?_, frame⟩
  · have work := closeWork_frame s
    ext1 <;> rw [frame]
    all_goals rw [work]
  · have late : closeIsLate s = false := by rw [closeIsLate, running]
    rw [late, if_neg (by simp)] at after
    obtain ⟨_, _, _, _, _, converter⟩ := plain.1
    rw [after, closeWork_scan, late, Bool.and_false, closeWork_frame]
    exact ⟨rfl, converter⟩
  · have late : closeIsLate s = true := by rw [closeIsLate, expired]
    have started := cycleStart_eq_started (s := closeWork s) (by rw [closeWork_scan]; exact bound)
    rw [late, if_pos rfl, started] at after
    rw [after, State.started, closeWork_scan, closeWork_site, closeWork_tables, late, Bool.and_true]
    exact ⟨rfl, rfl⟩

end Sys2Proof.Machine
end

section
/-! The record of a channel after an event, the REPORTs that the event queues, and the local conversions.
Settles ChannelRecordFollowsEvents, ReportsFollowThePolicy and LocalConversionReachesItsChannel. -/

namespace Sys2Proof.Machine

/-! ### The record after an event (R50 to R52) -/

/-- R50: a valid reading. -/
theorem takeValid_eq (v : Nat) (r : ChannelRec) :
    r.takeValid v =
      if r.health = .failed then
        if 2 ≤ r.recovery + 1 then { r with value := v, health := .healthy, missCount := 0, recovery := 0 }
        else { r with value := v, recovery := r.recovery + 1 }
      else { r with value := v, health := .healthy, missCount := 0 } := by
  unfold ChannelRec.takeValid
  cases health : r.health <;> simp

/-- R51: a miss; a channel that is not yet FAILED stays UNKNOWN or becomes SUSPECT below its limit. -/
theorem takeMiss_eq (limit : Nat) (r : ChannelRec) :
    r.takeMiss limit =
      if r.health = .failed then { r with recovery := 0 }
      else if r.missCount + 1 = limit then
        { r with health := .failed, missCount := r.missCount + 1, recovery := 0 }
      else
        { r with missCount := r.missCount + 1
                 health := if r.health = .unknown then .unknown else .suspect } := by
  obtain ⟨health, _⟩ := r
  unfold ChannelRec.takeMiss
  cases health <;> simp

/-- R52: a reading with head status WARMUP. -/
theorem takeWarmup_eq (r : ChannelRec) :
    r.takeWarmup =
      if r.health = .failed then { r with recovery := 0 }
      else { r with health := .unknown, missCount := 0 } := by
  unfold ChannelRec.takeWarmup
  cases health : r.health <;> simp

/-- Settles O33, event by event. -/
theorem channelRecordFollowsEvents : Obligations.ChannelRecordFollowsEvents :=
  fun e r v => ⟨takeValid_eq v r, takeMiss_eq e.missLimit r, rfl, takeWarmup_eq r⟩

/-! ### The REPORTs of an event (R57 to R60, R160) -/

/-- An event leaves the forwarded fields. -/
theorem takeEvent_forwardedFields (e : ChannelEntry) (ev : ChannelEvent) (r : ChannelRec) :
    (r.takeEvent e ev).fwdValue = r.fwdValue ∧ (r.takeEvent e ev).fwdHealth = r.fwdHealth := by
  cases ev with
  | valid v =>
    rw [ChannelRec.takeEvent, takeValid_eq]
    repeat' split
    all_goals exact ⟨rfl, rfl⟩
  | miss =>
    rw [ChannelRec.takeEvent, takeMiss_eq]
    repeat' split
    all_goals exact ⟨rfl, rfl⟩
  | warmup =>
    rw [ChannelRec.takeEvent, takeWarmup_eq]
    split <;> exact ⟨rfl, rfl⟩
  | fault => exact ⟨rfl, rfl⟩

theorem isValid_iff (ev : ChannelEvent) : ev.isValid = true ↔ ∃ v, ev = .valid v := by
  cases ev <;> simp [ChannelEvent.isValid]

/-- R59: two values differ by a deadband or more. -/
theorem le_absDiff_iff (d a b : Nat) : d ≤ absDiff a b ↔ a + d ≤ b ∨ b + d ≤ a := by
  unfold absDiff
  omega

/-- R58 to R60: when an event that took a record to another, of the same forwarded fields, is reported. -/
theorem reportDue_iff {policy : ForwardPolicy} {deadband : Nat} {ev : ChannelEvent} {old new : ChannelRec}
    (value : new.fwdValue = old.fwdValue) (health : new.fwdHealth = old.fwdHealth) :
    reportDue policy deadband ev old new = true ↔
      (policy = .all ∧
        ((∃ v, ev = .valid v) ∨ (new.health = .failed ∧ old.health ≠ .failed))) ∨
      (policy = .change ∧
        ((new.health = .failed ∧ old.health ≠ .failed) ∨ new.health ≠ old.fwdHealth ∨
          ((∃ v, ev = .valid v) ∧
            (new.value + deadband ≤ old.fwdValue ∨ old.fwdValue + deadband ≤ new.value)))) := by
  cases policy with
  | none => simp [reportDue]
  | all => simp [reportDue, isValid_iff]
  | change => simp [reportDue, isValid_iff, le_absDiff_iff, value, health, or_assoc]

/-- R160: the queue keeps its newest 24 REPORTs. -/
theorem pushReport_eq (q : List Report) (r : Report) :
    pushReport q r = (if q.length < 24 then q else q.drop (q.length - 23)) ++ [r] := by
  unfold pushReport
  rw [List.length_append, List.length_singleton]
  split
  · rw [show q.length + 1 - 24 = 0 by omega, List.drop_zero]
  · rw [show q.length + 1 - 24 = q.length - 23 by omega, List.drop_append_of_le_length (by omega)]

/-- Settles O34: the event is reported exactly when it is due, and the record is forwarded with it. -/
theorem reportsFollowThePolicy : Obligations.ReportsFollowThePolicy := by
  intro ch policy deadband ev base s due r taken decides
  obtain ⟨value, health⟩ := takeEvent_forwardedFields (channelOf s.tables ch) ev base
  rw [← taken] at value health
  have reported : reportDue policy deadband ev base r = true ↔ due :=
    (reportDue_iff value health).trans decides.symm
  simp only [channelEvent, ← taken]
  refine ⟨fun silent => ?_, fun reports => ?_⟩
  · rw [if_neg fun h => silent (reported.1 h), setChannel]
  · rw [if_pos (reported.2 reports), queueReport, pushReport_eq]
    rfl

/-! ### Local conversions (R54, R55, R57) -/

/-- R57: with no window an event is not reported. -/
theorem channelEvent_unreported (ch : Fin 64) (deadband : Nat) (ev : ChannelEvent) (base : ChannelRec)
    (s : State) :
    channelEvent ch .none deadband ev base s =
      { s with store := { s.store with
          channels := s.store.channels.set ch (base.takeEvent (channelOf s.tables ch) ev) } } := by
  simp only [channelEvent, reportDue, Bool.false_eq_true, if_false, setChannel]

/-- R48, R49: an OK reading of a channel in use is valid inside the raw limits and a miss outside them. -/
theorem judgeReading_ok {e : ChannelEntry} (used : e.kind ≠ .none) (raw : Nat) :
    judgeReading e .ok raw =
      if e.rawLow ≤ raw ∧ raw ≤ e.rawHigh then
        .valid (min (((raw - e.offset) * e.gain + 2048) / 4096) (if e.kind = .current then 10000 else 1000))
      else .miss := by
  rw [judgeReading, correctedValue_eq used]

/-- R55: a conversion that ends hands its sample to the channel of the converter's input. -/
theorem conversionStep_of_converting {s : State} {k : Fin 4} {rest : List (Fin 4)} {ch : Fin 64}
    (sample : BitVec 12) (converting : s.converter = k :: rest) (input : ch.val = 60 + k.val) :
    conversionStep sample s = takeReading ch .none 0 .ok sample.toNat { s with converter := rest } := by
  have channel : ch = ⟨60 + k.val, by omega⟩ := Fin.ext input
  simp only [conversionStep, converting, channel]

/-- Settles O45: the sample is an OK reading, judged like a head's and never reported. -/
theorem localConversionReachesItsChannel : Obligations.LocalConversionReachesItsChannel := by
  intro s sample k rest ch held converting input
  rw [exec_of_running _ held, effect, conversionStep_of_converting sample converting input]
  refine congrArg _ ?_
  by_cases none_ : (channelOf s.tables ch).kind = .none
  · rw [if_pos none_]
    exact takeReading_of_none (s := { s with converter := rest }) none_ _ _ _ _
  · rw [if_neg none_, takeReading_of_used (s := { s with converter := rest }) none_, channelEvent_unreported,
      ← judgeReading_ok none_]
    rfl

end Sys2Proof.Machine
end

section
/-! SUPPORT. What one command can do to the record of a channel, a zone or a fan: a move of that record, or its
reset values. Every invariant of the records is derived from `effect_recordsMoved`. -/

namespace Sys2Proof.Machine

/-! ### The moves of a record -/

/-- R48 to R52, R60: what an event of a channel with an entry can make of its record. -/
inductive ChannelMove (e : ChannelEntry) (r : ChannelRec) : ChannelRec → Prop
  | kept : ChannelMove e r r
  | event (used : e.kind ≠ .none) (raw : Nat) (ev : ChannelEvent) :
    ChannelMove e r (ChannelRec.takeEvent e ev { r with lastRaw := raw })
  | forwarded (used : e.kind ≠ .none) (raw : Nat) (ev : ChannelEvent) :
    ChannelMove e r (ChannelRec.takeEvent e ev { r with lastRaw := raw }).forwarded

/-- R95 to R97, R99 to R105, R110, R111: what one operation can make of the record of fan `f`, with the
tables `m`, in a device state. -/
inductive FanMove (m : Memory) (f : Nat) (device : DeviceState) (r : FanRec) : FanRec → Prop
  | told (enabled : (fanOf m f).enable = true) (tach : Nat) (status : Option DriveReply) :
    FanMove m f device r { r with lastTach := tach, lastStatus := status }
  | sampled (enabled : (fanOf m f).enable = true) (sample : FanSample) :
    FanMove m f device r (r.takeSample (fanOf m f) sample)
  | allocated (enabled : (fanOf m f).enable = true) (fans : Vector FanRec 16) {zone : Nat}
    (inside : zone < 8) (zoneEnabled : (zoneOf m zone).enable = true) (z : ZoneRec) :
    FanMove m f device r { r with allocated := (allocateZone m fans zone z).1 }
  | recommanded (enabled : (fanOf m f).enable = true) : FanMove m f device r (r.recommand device)
  | flagged (enabled : (fanOf m f).enable = true) : FanMove m f device r (r.workFlag (fanOf m f))
  | sent (enabled : (fanOf m f).enable = true) : FanMove m f device r r.sent
  | absorbed (enabled : (fanOf m f).enable = true) {speed : Nat} (legal : speed ≤ 100 ∨ speed = 255) :
    FanMove m f device r (r.absorb device speed)
  | dropped : FanMove m f device r (r.dropManual device)
  | cleared : FanMove m f device r { r with flag := false }

/-- The records of all fans after any number of moves. -/
def FansMoved (m : Memory) (device : DeviceState) (v w : Vector FanRec 16) : Prop :=
  ∀ f : Fin 16, Relation.ReflTransGen (FanMove m f device) v[f] w[f]

theorem FansMoved.refl (m : Memory) (device : DeviceState) (v : Vector FanRec 16) : FansMoved m device v v :=
  fun _ => .refl

theorem FansMoved.trans {m : Memory} {device : DeviceState} {u v w : Vector FanRec 16}
    (h : FansMoved m device u v) (k : FansMoved m device v w) : FansMoved m device u w :=
  fun f => (h f).trans (k f)

theorem fansMoved_set {m : Memory} {device : DeviceState} {v : Vector FanRec 16} {f : Fin 16} {r : FanRec}
    (h : Relation.ReflTransGen (FanMove m f device) v[f] r) : FansMoved m device v (v.set f r) := fun g => by
  rw [fin_getElem_set]
  split
  · next same => rw [← same]; exact h
  · exact .refl

/-! ### The records of a part -/

/-- What a command does to the records: each is set to its reset values, or it moves under an entry that
stands; then the device state stands or becomes RUN. -/
structure RecordsMoved (s t : State) : Prop where
  channels : ∀ i : Fin 64, t.store.channels[i] = ChannelRec.initial ∨
    channelOf t.tables i = channelOf s.tables i ∧
      ChannelMove (channelOf s.tables i) s.store.channels[i] t.store.channels[i]
  zones : ∀ z : Fin 8, t.zones[z] = ZoneRec.initial ∨
    zoneOf t.tables z = zoneOf s.tables z ∧
      ((zoneOf s.tables z).enable = false → t.zones[z] = s.zones[z])
  fans : ∀ f : Fin 16, t.alloc.fans[f] = FanRec.initial ∨
    fanOf t.tables f = fanOf s.tables f ∧
      (t.control.device = s.control.device ∨ t.control.device = .run) ∧
      Relation.ReflTransGen (FanMove s.tables f s.control.device) s.alloc.fans[f] t.alloc.fans[f]

/-- Each record is set to its reset values, or stands with its entry; then the device state stands or
becomes RUN. -/
structure RecordsKept (s t : State) : Prop where
  channels : ∀ i : Fin 64, t.store.channels[i] = ChannelRec.initial ∨
    channelOf t.tables i = channelOf s.tables i ∧ t.store.channels[i] = s.store.channels[i]
  zones : ∀ z : Fin 8, t.zones[z] = ZoneRec.initial ∨
    zoneOf t.tables z = zoneOf s.tables z ∧ t.zones[z] = s.zones[z]
  fans : ∀ f : Fin 16, t.alloc.fans[f] = FanRec.initial ∨
    fanOf t.tables f = fanOf s.tables f ∧
      (t.control.device = s.control.device ∨ t.control.device = .run) ∧
      t.alloc.fans[f] = s.alloc.fans[f]

theorem recordsKept_of_same {s t : State} (tables : t.tables = s.tables)
    (device : t.control.device = s.control.device ∨ t.control.device = .run)
    (channels : t.store.channels = s.store.channels) (zones : t.zones = s.zones)
    (fans : t.alloc.fans = s.alloc.fans) : RecordsKept s t where
  channels i := .inr ⟨by rw [tables], by rw [channels]⟩
  zones z := .inr ⟨by rw [tables], by rw [zones]⟩
  fans f := .inr ⟨by rw [tables], device, by rw [fans]⟩

theorem RecordsKept.refl (s : State) : RecordsKept s s := recordsKept_of_same rfl (.inl rfl) rfl rfl rfl

/-- R61, R87, R114: every record at its reset values. -/
theorem recordsKept_of_initial {s t : State}
    (channels : t.store.channels = Vector.replicate 64 ChannelRec.initial)
    (zones : t.zones = Vector.replicate 8 ZoneRec.initial)
    (fans : t.alloc.fans = Vector.replicate 16 FanRec.initial) : RecordsKept s t where
  channels i := .inl (by simp [channels])
  zones z := .inl (by simp [zones])
  fans f := .inl (by simp [fans])

theorem RecordsMoved.kept {s t u : State} (h : RecordsMoved s t) (k : RecordsKept t u) : RecordsMoved s u where
  channels i := by
    rcases k.channels i with e | ⟨entry, e⟩
    · exact .inl e
    · rw [entry, e]; exact h.channels i
  zones z := by
    rcases k.zones z with e | ⟨entry, e⟩
    · exact .inl e
    · rw [entry, e]; exact h.zones z
  fans f := by
    rcases k.fans f with e | ⟨entry, device, e⟩
    · exact .inl e
    · rw [entry, e]
      refine (h.fans f).imp_right fun ⟨same, before, moves⟩ => ⟨same, ?_, moves⟩
      rcases device with stands | run
      · rw [stands]; exact before
      · exact .inr run

/-- A command that leaves the tables and the device state. -/
theorem recordsMoved_of_moves {s t : State} (tables : t.tables = s.tables)
    (device : t.control.device = s.control.device)
    (channels : ∀ i : Fin 64, ChannelMove (channelOf s.tables i) s.store.channels[i] t.store.channels[i])
    (zones : ∀ z : Fin 8, (zoneOf s.tables z).enable = false → t.zones[z] = s.zones[z])
    (fans : FansMoved s.tables s.control.device s.alloc.fans t.alloc.fans) : RecordsMoved s t where
  channels i := .inr ⟨by rw [tables], channels i⟩
  zones z := .inr ⟨by rw [tables], zones z⟩
  fans f := .inr ⟨by rw [tables], .inl device, fans f⟩

/-- A command that moves the fans alone. -/
theorem recordsMoved_of_fans {s t : State} (tables : t.tables = s.tables)
    (device : t.control.device = s.control.device) (channels : t.store.channels = s.store.channels)
    (zones : t.zones = s.zones) (fans : FansMoved s.tables s.control.device s.alloc.fans t.alloc.fans) :
    RecordsMoved s t :=
  recordsMoved_of_moves tables device (fun i => by rw [channels]; exact .kept)
    (fun z _ => by rw [zones]) fans

theorem RecordsMoved.refl (s : State) : RecordsMoved s s := recordsMoved_of_fans rfl rfl rfl rfl (.refl _ _ _)

theorem recordsMoved_of_same {s t : State} (tables : t.tables = s.tables)
    (device : t.control.device = s.control.device) (channels : t.store.channels = s.store.channels)
    (zones : t.zones = s.zones) (fans : t.alloc.fans = s.alloc.fans) : RecordsMoved s t :=
  recordsMoved_of_fans tables device channels zones (by rw [fans]; exact .refl _ _ _)

theorem RecordsKept.moved {s t : State} (h : RecordsKept s t) : RecordsMoved s t := (RecordsMoved.refl s).kept h

/-! ### Channel events (R42, R45, R48, R55) -/

/-- An event of a channel in use moves its record and no other. -/
theorem recordsMoved_channelEvent {ch : Fin 64} (policy : ForwardPolicy) (deadband : Nat)
    (ev : ChannelEvent) (raw : Nat) {s : State} (used : (channelOf s.tables ch).kind ≠ .none) :
    RecordsMoved s (channelEvent ch policy deadband ev { s.store.channels[ch] with lastRaw := raw } s) := by
  obtain ⟨r, taken, channels⟩ :=
    channelEvent_channels ch policy deadband ev { s.store.channels[ch] with lastRaw := raw } s
  rw [channelEvent_frame, channels]
  refine recordsMoved_of_moves rfl rfl (fun i => ?_) (fun _ _ => rfl) (.refl _ _ _)
  show ChannelMove _ _ (s.store.channels.set ch r)[i]
  rw [fin_getElem_set]
  split
  · next same =>
    subst same
    rcases taken with rfl | rfl
    · exact .event used raw ev
    · exact .forwarded used raw ev
  · exact .kept

theorem recordsMoved_takeReading (ch : Fin 64) (policy : ForwardPolicy) (deadband : Nat)
    (status : HeadStatus) (raw : Nat) (s : State) :
    RecordsMoved s (takeReading ch policy deadband status raw s) := by
  by_cases used : (channelOf s.tables ch).kind = .none
  · rw [takeReading_of_none used]; exact .refl s
  · rw [takeReading_of_used used]
    exact recordsMoved_channelEvent policy deadband _ raw used

theorem recordsMoved_takeChannelMiss (ch : Fin 64) (policy : ForwardPolicy) (deadband : Nat) (s : State) :
    RecordsMoved s (takeChannelMiss ch policy deadband s) := by
  unfold takeChannelMiss
  split
  · exact .refl s
  · next used => exact recordsMoved_channelEvent policy deadband .miss s.store.channels[ch].lastRaw used

theorem recordsMoved_takeUnclassified (s : State) : RecordsMoved s (takeUnclassified s) := by
  rw [takeUnclassified_frame]
  exact recordsMoved_of_same rfl rfl rfl rfl rfl

theorem recordsMoved_takeReadingFrom (node status : Byte) (raw : Nat) (s : State) :
    RecordsMoved s (takeReadingFrom node status raw s) := by
  unfold takeReadingFrom
  split
  · exact recordsMoved_takeReading _ _ _ _ _ s
  · exact recordsMoved_takeUnclassified s

theorem recordsMoved_conversionStep (sample : BitVec 12) (s : State) :
    RecordsMoved s (conversionStep sample s) := by
  rcases conversionStep_cases sample s with ⟨i, rest, _, e⟩ | ⟨_, e⟩ <;> rw [e]
  · exact { recordsMoved_takeReading _ _ _ _ _ { s with converter := rest } with }
  · exact .refl s

/-! ### Fan events (R95 to R97) -/

theorem enable_of_enabledRemote {e : FanEntry} (h : e.enabledRemote = true) : e.enable = true :=
  ((enabledRemote_iff e).1 h).1

theorem enable_of_enabledLocal {e : FanEntry} (h : e.enabledLocal = true) : e.enable = true := by
  rw [FanEntry.enabledLocal, Bool.and_eq_true] at h
  exact h.1

/-- A fan record written by moves. -/
theorem recordsMoved_setFan {f : Fin 16} {r : FanRec} {s : State}
    (h : Relation.ReflTransGen (FanMove s.tables f s.control.device) s.alloc.fans[f] r) :
    RecordsMoved s (setFan f r s) :=
  recordsMoved_of_fans rfl rfl rfl rfl (fansMoved_set h)

theorem recordsMoved_takeDriveStatus (f : Fin 16) (st : DriveReply) (s : State) :
    RecordsMoved s (takeDriveStatus f st s) := by
  unfold takeDriveStatus
  split
  · next h =>
    have enabled := enable_of_enabledRemote h
    exact recordsMoved_setFan
      (.tail (.single (.told enabled s.alloc.fans[f].lastTach (some st))) (.sampled enabled _))
  · exact .refl s

theorem recordsMoved_takeFanMiss (f : Fin 16) (s : State) : RecordsMoved s (takeFanMiss f s) := by
  unfold takeFanMiss
  split
  · next h => exact recordsMoved_setFan (.single (.sampled (enable_of_enabledRemote h) .bad))
  · exact .refl s

theorem recordsMoved_takeDriveStatusFrom (node : Byte) (st : DriveReply) (s : State) :
    RecordsMoved s (takeDriveStatusFrom node st s) := by
  unfold takeDriveStatusFrom
  split
  · exact recordsMoved_takeDriveStatus _ st s
  · exact recordsMoved_takeUnclassified s

/-! ### South replies and the reply window (R25, R26) -/

theorem recordsMoved_receiveSouth (t : Telegram) {take : Transaction → State → State} (s : State)
    (moves : ∀ tr u, RecordsMoved u (take tr u)) : RecordsMoved s (receiveSouth t take s) := by
  rcases receiveSouth_cases t take s with ⟨_, e⟩ | ⟨_, _, tr, _, _, e⟩ | ⟨_, _, e⟩ <;> rw [e]
  · exact .refl s
  · exact { moves tr s.afterReply with }
  · exact recordsMoved_of_same rfl rfl rfl rfl rfl

theorem recordsMoved_takeAnswer (tr : Transaction) (payload : List Byte) (s : State) :
    RecordsMoved s (takeAnswer tr payload s) := by
  rw [takeAnswer_frame]
  exact recordsMoved_of_same rfl rfl rfl rfl rfl

theorem recordsMoved_deliverMiss (tr : Transaction) (s : State) : RecordsMoved s (deliverMiss tr s) := by
  unfold deliverMiss
  repeat' split
  · exact recordsMoved_takeChannelMiss _ _ _ s
  · exact .refl s
  · exact recordsMoved_takeFanMiss _ s
  · exact .refl s
  · exact recordsMoved_takeFanMiss _ s
  · exact .refl s
  · exact .refl s
  · exact recordsMoved_of_same rfl rfl rfl rfl rfl

theorem recordsMoved_windowExpiry (receiving : Bool) (s : State) :
    RecordsMoved s (windowExpiry receiving s) := by
  rcases windowExpiry_cases receiving s with ⟨tr, _, _, e⟩ | ⟨_, e⟩ <;> rw [e]
  · exact { recordsMoved_deliverMiss tr { s with
      lines := { s.lines with southRx := s.lines.southRx.noted receiving }
      scan := { s.scan with slot := none } } with }
  · exact .refl s

/-! ### The south arbiter and supervisor silence (R29 to R32, R105, R111) -/

theorem fansMoved_clearStrayFlags (s : State) :
    FansMoved s.tables s.control.device s.alloc.fans (clearStrayFlags s).alloc.fans :=
  fun f => by
    simp only [clearStrayFlags, fin_getElem_mapFin]
    split
    · exact .refl
    · exact .single .cleared

theorem recordsMoved_clearStrayFlags (s : State) : RecordsMoved s (clearStrayFlags s) :=
  recordsMoved_of_fans (by simp) (by simp) (by simp) (by simp) (fansMoved_clearStrayFlags s)

/-- R29: the fan that the arbiter finds is an enabled one. -/
theorem enable_of_flaggedFan {s : State} {f : Fin 16} (h : flaggedFan s = some f) :
    (fanOf s.tables f).enable = true := by
  have found := List.find?_some h
  rw [Bool.and_eq_true] at found
  exact enable_of_enabledRemote found.2

/-- R23: the opening of a transaction writes the line and the slot alone. -/
theorem recordsKept_openTransaction (t : Telegram) (purpose : Purpose) (windowMs : Nat) (s : State) :
    RecordsKept s (openTransaction t purpose windowMs s) :=
  recordsKept_of_same rfl (.inl rfl) rfl rfl rfl

theorem recordsKept_openRelay (e : RelayEntry) (s : State) : RecordsKept s (openRelay e s) :=
  recordsKept_of_same rfl (.inl rfl) rfl rfl rfl

theorem recordsKept_openScan (i : Nat) (s : State) : RecordsKept s (openScan i s) :=
  recordsKept_of_same rfl (.inl rfl) rfl rfl rfl

/-- R29, R111: a FAN DRIVE clears the stray flags and writes the record of its fan. -/
theorem recordsMoved_fanDriveStep (s : State) : RecordsMoved s (fanDriveStep s) := by
  rcases fanDriveStep_cases s with ⟨_, f, found, e⟩ | ⟨_, _, e⟩ | ⟨_, e⟩ <;> rw [e]
  · have enabled : (fanOf s.tables f).enable = true := enable_of_flaggedFan found
    have sent : FansMoved s.tables s.control.device (clearStrayFlags s).alloc.fans
        ((clearStrayFlags s).alloc.fans.set f (clearStrayFlags s).alloc.fans[f].sent) :=
      fansMoved_set (.single (.sent enabled))
    have written : RecordsMoved s (setFan f (clearStrayFlags s).alloc.fans[f].sent (clearStrayFlags s)) :=
      recordsMoved_of_fans (by simp) (by simp) (by simp) (by simp) ((fansMoved_clearStrayFlags s).trans sent)
    exact written.kept (recordsKept_openTransaction _ _ _ _)
  · exact recordsMoved_clearStrayFlags s
  · exact .refl s

theorem recordsMoved_relayStep (s : State) : RecordsMoved s (relayStep s) := by
  rcases relayStep_cases s with ⟨_, entry, _, e⟩ | ⟨_, e⟩ <;> rw [e]
  · exact (recordsMoved_clearStrayFlags s).kept (recordsKept_openRelay entry _)
  · exact .refl s

theorem recordsMoved_scanStep (s : State) : RecordsMoved s (scanStep s) := by
  rcases scanStep_cases s with ⟨_, i, _, e⟩ | ⟨_, e⟩ <;> rw [e]
  · exact (recordsMoved_clearStrayFlags s).kept (recordsKept_openScan i _)
  · exact .refl s

theorem recordsMoved_silenceExpiry (s : State) : RecordsMoved s (silenceExpiry s) := by
  rcases silenceExpiry_cases s with ⟨_, _, e⟩ | ⟨_, e⟩ <;> rw [e]
  · have fans : (evalRelays (handCondition sourceSupervisorLost true (dropSupervisorWork s))).alloc.fans =
        s.alloc.fans.map (FanRec.dropManual s.control.device) := by simp [dropSupervisorWork]
    refine recordsMoved_of_fans (by simp) (by simp) (by simp) (by simp) fun f => ?_
    simp only [fans, Fin.getElem_fin, Vector.getElem_map]
    exact .single .dropped
  · exact .refl s

/-! ### North arrivals (R104, R168) -/

/-- R168: the fan that a node absorbs for is an enabled one. -/
theorem enable_of_remoteFanOf {m : Memory} {node : Byte} {f : Fin 16} (h : remoteFanOf m node = some f) :
    (fanOf m f).enable = true := by
  have found := List.find?_some h
  rw [Bool.and_eq_true] at found
  exact enable_of_enabledRemote found.1

/-- R13, R168: a speed that is absorbed is a duty or 255. -/
theorem fansMoved_takeDriveSet (node speed : Byte) (s : State) :
    FansMoved s.tables s.control.device s.alloc.fans (takeDriveSet node speed s).alloc.fans := by
  unfold takeDriveSet
  repeat' split
  · exact .refl _ _ _
  · next legal _ f found =>
    have bound := speed.isLt
    exact fansMoved_set (.single (.absorbed (enable_of_remoteFanOf found) (by omega)))
  · exact .refl _ _ _
  · rw [screenCandidate_frame]; exact .refl _ _ _

theorem fansMoved_dispatchNode (t : Telegram) (s : State) :
    FansMoved s.tables s.control.device s.alloc.fans (dispatchNode t s).alloc.fans := by
  unfold dispatchNode
  split
  · exact fansMoved_takeDriveSet _ _ s
  · rw [screenCandidate_frame]; exact .refl _ _ _
  · exact .refl _ _ _

theorem fansMoved_receiveNorth (t : Telegram) (s : State) :
    FansMoved s.tables s.control.device s.alloc.fans (receiveNorth t s).alloc.fans := by
  have arrival : s.afterArrival.tables = s.tables ∧ s.afterArrival.control = s.control ∧
      s.afterArrival.alloc = s.alloc := by
    refine ⟨afterArrival_tables s, ?_, ?_⟩ <;> rw [afterArrival_frame]
  obtain ⟨tables, control, alloc⟩ := arrival
  rcases receiveNorth_cases t s with ⟨_, e⟩ | ⟨_, _, e⟩ | ⟨_, _, _, ⟨_, e⟩ | ⟨_, _, e⟩ | ⟨_, _, e⟩⟩ <;>
    rw [e]
  · exact .refl _ _ _
  · exact .refl _ _ _
  · rw [alloc]; exact .refl _ _ _
  · rw [dispatchOwn_frame, reserveReply_alloc, alloc]; exact .refl _ _ _
  · have node := fansMoved_dispatchNode t (reserveReply s.afterArrival)
    rwa [reserveReply_tables, reserveReply_control, reserveReply_alloc, tables, control, alloc] at node

theorem recordsMoved_receiveNorth (t : Telegram) (s : State) : RecordsMoved s (receiveNorth t s) := by
  have tables : (receiveNorth t s).tables = s.tables := by
    rw [State.tables, State.tables, receiveNorth_activeBank]
  refine recordsMoved_of_fans tables ?_ ?_ ?_ (fansMoved_receiveNorth t s) <;> rw [receiveNorth_frame]

/-! ### The work of a close (R20, R69, R99) -/

theorem fansMoved_sampleLocalFans (device : DeviceState) (s : State) :
    FansMoved s.tables device s.alloc.fans (sampleLocalFans s).alloc.fans :=
  fun f => by
    simp only [sampleLocalFans, clearTach, fin_getElem_mapFin]
    split
    · next h =>
      have enabled := enable_of_enabledLocal h
      refine .head (.told enabled (tachOf s.pwm.tach (fanOf s.tables f).output)
        s.alloc.fans[f].lastStatus) ?_
      simp only [FanRec.takeTach]
      repeat' split
      · exact .refl
      · exact .single (.sampled enabled .bad)
      · exact .single (.sampled enabled .good)
    · exact .refl

/-- R99 to R101: a zone that is allocated for is an enabled one. -/
theorem zoneAllocation_eq_some {s : State} {zone : Nat} {a : Nat × Bool}
    (h : zoneAllocation s zone = some a) :
    zone < 8 ∧ (zoneOf s.tables zone).enable = true ∧
      ∃ z : ZoneRec, a = allocateZone s.tables s.alloc.fans zone z := by
  unfold zoneAllocation at h
  split at h
  · split at h
    · next inside enabled => exact ⟨inside, enabled, _, (Option.some.inj h).symm⟩
    · cases h
  · cases h

theorem fansMoved_allocateZones (device : DeviceState) (s : State) :
    FansMoved s.tables device s.alloc.fans (allocateZones s).alloc.fans :=
  fun f => by
    simp only [allocateZones, fin_getElem_mapFin]
    repeat' split
    · next enabled _ duty short a =>
      obtain ⟨inside, zoneEnabled, z, allocated⟩ := zoneAllocation_eq_some a
      obtain rfl : duty = (allocateZone s.tables s.alloc.fans _ z).1 := congrArg Prod.fst allocated
      exact .single (.allocated enabled s.alloc.fans inside zoneEnabled z)
    · exact .refl
    · exact .refl

theorem fansMoved_commandFans (s : State) :
    FansMoved s.tables s.control.device s.alloc.fans (commandFans s).alloc.fans := fun f => by
  simp only [commandFans, writeOutputs_alloc, fin_getElem_mapFin]
  split
  · next enabled => exact .single (.recommanded enabled)
  · exact .refl

theorem fansMoved_workFlags (device : DeviceState) (s : State) :
    FansMoved s.tables device s.alloc.fans (workFlags s).alloc.fans :=
  fun f => by
    simp only [workFlags, fin_getElem_mapFin]
    split
    · next h => exact .single (.flagged (enable_of_enabledRemote h))
    · exact .refl

/-- R99: the stages of the Allocator, one after the other. -/
theorem fansMoved_closeWork (s : State) :
    FansMoved s.tables s.control.device s.alloc.fans (closeWork s).alloc.fans := by
  have start : (evaluateZones (closeScan s)).tables = s.tables ∧
      (evaluateZones (closeScan s)).control = s.control ∧ (evaluateZones (closeScan s)).alloc = s.alloc := by
    rw [evaluateZones_tables, evaluateZones_control, evaluateZones_alloc, closeScan_tables, closeScan_frame]
    exact ⟨rfl, rfl, rfl⟩
  rw [closeWork_alloc]
  generalize evaluateZones (closeScan s) = u at start
  obtain ⟨tables, control, alloc⟩ := start
  have sampled := fansMoved_sampleLocalFans s.control.device u
  have allocated := fansMoved_allocateZones s.control.device (sampleLocalFans u)
  have commanded := fansMoved_commandFans (allocateZones (sampleLocalFans u))
  have flagged := fansMoved_workFlags s.control.device (commandFans (allocateZones (sampleLocalFans u)))
  simp only [sampleLocalFans_tables, allocateZones_tables, commandFans_tables, sampleLocalFans_control,
    allocateZones_control, tables, control, alloc] at sampled allocated commanded flagged
  exact ((sampled.trans allocated).trans commanded).trans flagged

theorem recordsMoved_closeWork (s : State) : RecordsMoved s (closeWork s) := by
  refine recordsMoved_of_moves (closeWork_tables s) ?_ (fun i => ?_) (fun z disabled => ?_)
    (fansMoved_closeWork s)
  · rw [closeWork_frame]
  · rw [closeWork_frame]; exact .kept
  · rw [closeWork_zone, if_neg (by simp [disabled])]

/-! ### The swap (R62, R88, R115, R188) -/

/-- R188: two banks that agree in a record read alike in it. -/
theorem read_of_agrees {m n : Memory} {start len : Nat} (agrees : recordDiffers n m start len = false)
    (k : Nat) (inside : k < len) : n.read (start + k) = m.read (start + k) := by
  simp only [recordDiffers, List.any_eq_false, List.mem_range, bne_iff_ne, ne_eq, not_not] at agrees
  exact agrees k inside

theorem byteAt_of_agrees {m n : Memory} {start len : Nat} (agrees : recordDiffers n m start len = false)
    (k : Nat) (inside : k < len) : n.byteAt (start + k) = m.byteAt (start + k) := by
  rw [Memory.byteAt, Memory.byteAt, read_of_agrees agrees k inside]

theorem wordAt_of_agrees {m n : Memory} {start len : Nat} (agrees : recordDiffers n m start len = false)
    (k : Nat) (inside : k + 1 < len) : n.wordAt (start + k) = m.wordAt (start + k) := by
  rw [Memory.wordAt, Memory.wordAt, byteAt_of_agrees agrees k (by omega), Nat.add_assoc,
    byteAt_of_agrees agrees (k + 1) inside]

theorem channelOf_of_agrees {m n : Memory} {i : Nat} (agrees : recordDiffers n m (channelAt i) 16 = false) :
    channelOf n i = channelOf m i := by
  have first := byteAt_of_agrees agrees 0 (by omega)
  have byte := byteAt_of_agrees agrees
  have word := wordAt_of_agrees agrees
  rw [Nat.add_zero] at first
  simp only [channelOf, first, byte, word, Nat.reduceAdd, Nat.reduceLT]

theorem zoneOf_of_agrees {m n : Memory} {z : Nat} (agrees : recordDiffers n m (zoneAt z) 22 = false) :
    zoneOf n z = zoneOf m z := by
  have first := byteAt_of_agrees agrees 0 (by omega)
  have byte := byteAt_of_agrees agrees
  have word := wordAt_of_agrees agrees
  rw [Nat.add_zero] at first
  simp only [zoneOf, first, byte, word, Nat.reduceAdd, Nat.reduceLT]

theorem fanOf_of_agrees {m n : Memory} {f : Nat} (agrees : recordDiffers n m (fanAt f) 12 = false) :
    fanOf n f = fanOf m f := by
  have first := byteAt_of_agrees agrees 0 (by omega)
  have read := read_of_agrees agrees
  have byte := byteAt_of_agrees agrees
  have word := wordAt_of_agrees agrees
  rw [Nat.add_zero] at first
  simp only [fanOf, first, read, byte, word, Nat.reduceAdd, Nat.reduceLT]

/-- R188: a record at a swap is reset, or its two entries agree and it stands. -/
theorem reinitChanged_cases {α : Type} {n : Nat} (old new : Memory) (start : Nat → Nat) (len : Nat)
    (initial : α) (v : Vector α n) (i : Fin n) :
    (reinitChanged old new start len initial v)[i] = initial ∨
      recordDiffers new old (start i) len = false ∧
        (reinitChanged old new start len initial v)[i] = v[i] := by
  rw [reinitChanged, fin_getElem_mapFin]
  cases recordDiffers new old (start i) len
  · exact .inr ⟨rfl, rfl⟩
  · exact .inl rfl

theorem recordsKept_swapAtClose (s : State) : RecordsKept s (swapAtClose s) where
  channels i := by
    rw [swapAtClose_tables, swapAtClose_channels]
    exact (reinitChanged_cases _ _ _ _ _ _ i).imp_right fun ⟨agrees, e⟩ => ⟨channelOf_of_agrees agrees, e⟩
  zones z := by
    rw [swapAtClose_tables, swapAtClose_zones]
    exact (reinitChanged_cases _ _ _ _ _ _ z).imp_right fun ⟨agrees, e⟩ => ⟨zoneOf_of_agrees agrees, e⟩
  fans f := by
    have control : (swapAtClose s).control = s.control := by rw [swapAtClose_frame]
    rw [swapAtClose_tables, swapAtClose_fans, control]
    exact (reinitChanged_cases _ _ _ _ _ _ f).imp_right fun ⟨agrees, e⟩ =>
      ⟨fanOf_of_agrees agrees, .inl rfl, e⟩

/-! ### The cycle (R18, R20, R21, R121, R123) -/

theorem recordsKept_cycleStart (s : State) : RecordsKept s (cycleStart s) :=
  recordsKept_of_same rfl (.inl rfl) rfl rfl rfl

theorem recordsKept_purgeExpiry (s : State) : RecordsKept s (purgeExpiry s) := by
  rw [purgeExpiry_frame]
  exact recordsKept_of_same rfl (.inr rfl) rfl rfl rfl

theorem recordsMoved_closeCycle (s : State) : RecordsMoved s (closeCycle s) := by
  have swap : RecordsKept (closeWork s) (closeSwap (closeWork s)) := by
    rcases closeSwap_cases (closeWork s) with ⟨_, e⟩ | ⟨_, e⟩ <;> rw [e]
    · exact recordsKept_swapAtClose _
    · exact .refl _
  have purge : ∀ u, RecordsKept u (closePurge u) := fun u => by
    rcases closePurge_cases u with ⟨_, _, e⟩ | ⟨_, e⟩ <;> rw [e]
    · exact recordsKept_purgeExpiry u
    · exact .refl u
  have all := ((recordsMoved_closeWork s).kept swap).kept (purge _)
  simp only [closeCycle]
  split
  · exact all.kept (recordsKept_cycleStart _)
  · exact all

theorem recordsKept_timerExpiry (s : State) : RecordsKept s (timerExpiry s) := by
  rw [timerExpiry_frame]
  exact recordsKept_of_same rfl (.inl rfl) rfl rfl rfl

/-! ### Activation and resets (R63, R90, R116, R126, R127) -/

theorem recordsKept_checkEndStep (s : State) : RecordsKept s (checkEndStep s) := by
  have bank : ∀ (st : ManagerState) (t : State), t.banks = { s.banks with state := st } →
      t.tables = s.tables := fun st t e => by
    rw [State.tables, State.tables, e]
    exact congrArg (·.getD []) (activeBank_congr rfl rfl rfl)
  unfold checkEndStep checkEnd
  repeat' split
  · exact recordsKept_of_same (bank .idle _ rfl) (.inl rfl) rfl rfl rfl
  · exact recordsKept_of_same (bank .idle _ rfl) (.inl rfl) rfl rfl rfl
  · exact recordsKept_of_initial (by simp [firstActivation, enterPurge])
      (by simp [firstActivation, enterPurge]) (by simp [firstActivation, enterPurge])
  · exact recordsKept_of_same (bank .swapPending _ rfl) (.inl rfl) rfl rfl rfl
  · exact .refl s

theorem recordsKept_releaseHold (release : Release) (s : State) : RecordsKept s (releaseHold release s) := by
  rcases releaseHold_cases release s with ⟨_, e⟩ | ⟨_, _, e⟩ | ⟨_, _, e⟩ <;> rw [e]
  · exact .refl s
  · exact recordsKept_of_same rfl (.inl rfl) rfl rfl rfl
  · exact recordsKept_of_initial rfl rfl rfl

theorem recordsKept_warmReset (s : State) : RecordsKept s (warmReset s) := by
  obtain ⟨store, zones, fans, _⟩ := warmReset_blocks s
  exact recordsKept_of_initial (by rw [store]; rfl) zones fans

/-! ### All commands -/

/-- What every command does to the records. -/
theorem effect_recordsMoved (c : Instr) (s : State) : RecordsMoved s (effect c s) := by
  cases c with
  | coldReset r => exact (recordsKept_releaseHold r s).moved
  | resetHold k =>
    simp only [effect]
    split
    · exact (recordsKept_of_initial rfl rfl rfl).moved
    · exact .refl s
  | warmReset =>
    simp only [effect]
    split
    · exact (recordsKept_warmReset s).moved
    · exact .refl s
  | tableWrite | tableRead | activate | acknowledge | status | readChannels | readZone | readFan | restart
  | driveSet | command | dispatchBadRequest | unknownRequest => exact recordsMoved_receiveNorth _ s
  | reading => exact recordsMoved_receiveSouth _ s fun _ => recordsMoved_takeReadingFrom _ _ _
  | driveStatus => exact recordsMoved_receiveSouth _ s fun _ => recordsMoved_takeDriveStatusFrom _ _
  | answer => exact recordsMoved_receiveSouth _ s fun tr => recordsMoved_takeAnswer tr _
  | replyWindowExpiry receiving => exact recordsMoved_windowExpiry receiving s
  | localConversionComplete sample => exact recordsMoved_conversionStep sample s
  | cycleTimerExpiry => exact (recordsKept_timerExpiry s).moved
  | cycleClose =>
    simp only [effect]
    split
    · exact recordsMoved_closeCycle s
    · exact .refl s
  | fanDrive => exact recordsMoved_fanDriveStep s
  | relayTransaction => exact recordsMoved_relayStep s
  | scanTransaction => exact recordsMoved_scanStep s
  | southRateChange =>
    rcases southRateStep_cases s with ⟨_, _, _, e⟩ | ⟨_, e⟩ <;> simp only [effect, e]
    · exact recordsMoved_of_same rfl rfl rfl rfl rfl
    · exact .refl s
  | northChoice =>
    simp only [effect]
    rw [northChoiceStep_frame]
    exact recordsMoved_of_same rfl rfl rfl rfl rfl
  | northTransmissionEnd receiving =>
    simp only [effect]
    rw [northSent_frame]
    exact recordsMoved_of_same (congrArg (·.getD []) (activeBank_congr rfl rfl rfl)) rfl rfl rfl rfl
  | activationCheckEnd => exact (recordsKept_checkEndStep s).moved
  | purgeTimerExpiry =>
    rcases purgeTimerStep_cases s with ⟨_, _, e⟩ | e <;> simp only [effect, e]
    · exact (recordsKept_purgeExpiry s).moved
    · exact .refl s
  | supervisorSilenceExpiry => exact recordsMoved_silenceExpiry s
  | tachPulse | pwmPeriodEnd => exact recordsMoved_of_same rfl rfl rfl rfl rfl
  | lineIdle line =>
    simp only [effect]
    rw [idleStep_frame]
    exact recordsMoved_of_same rfl rfl rfl rfl rfl
  | telegramAbandoned line cause =>
    rcases abandonStep_cases line cause s with ⟨_, e⟩ | ⟨_, e⟩ <;> simp only [effect, e]
    · rw [endReception_frame]
      exact recordsMoved_of_same rfl rfl rfl rfl rfl
    · exact .refl s
  | discardedTelegram line chars =>
    rcases discardStep_cases line chars s with ⟨_, _, e⟩ | ⟨_, e⟩ <;> simp only [effect, e]
    · rw [endReception_frame]
      exact recordsMoved_of_same rfl rfl rfl rfl rfl
    · exact .refl s
  | southTransmissionEnd =>
    rcases southSent_cases s with ⟨_, e⟩ | ⟨_, e⟩ <;> simp only [effect, e]
    · exact recordsMoved_of_same rfl rfl rfl rfl rfl
    · exact .refl s

end Sys2Proof.Machine
end

section
/-! The records of disabled channels, zones and fans stand at their reset values (R42, R62, R88, R90, R94,
R115). Settles StepKeepsDisabledAtReset. -/

namespace Sys2Proof.Machine

/-- R42: no event moves the record of a channel of kind NONE. -/
theorem ChannelMove.eq_of_none {e : ChannelEntry} {r r' : ChannelRec} (move : ChannelMove e r r')
    (none_ : e.kind = .none) : r' = r := by
  cases move with
  | kept => rfl
  | event used => exact absurd none_ used
  | forwarded used => exact absurd none_ used

/-- R94: what moves a disabled fan clears a flag or drops a setpoint, and its reset values hold neither. -/
theorem FanMove.initial_of_disabled {m : Memory} {f : Nat} {device : DeviceState} {r : FanRec}
    (move : FanMove m f device FanRec.initial r) (disabled : (fanOf m f).enable = false) :
    r = FanRec.initial := by
  cases move with
  | told enabled | sampled enabled | allocated enabled | recommanded enabled | flagged enabled | sent enabled
  | absorbed enabled => rw [disabled] at enabled; cases enabled
  | dropped | cleared => rfl

theorem initial_of_moves_disabled {m : Memory} {f : Nat} {device : DeviceState} {r : FanRec}
    (moves : Relation.ReflTransGen (FanMove m f device) FanRec.initial r)
    (disabled : (fanOf m f).enable = false) : r = FanRec.initial := by
  induction moves with
  | refl => rfl
  | tail _ move ih =>
    rw [ih] at move
    exact move.initial_of_disabled disabled

/-- A record that a command sets to its reset values or moves stands at them if its entry is disabled. -/
theorem State.DisabledAtReset.of_moved {s t : State} (h : s.DisabledAtReset) (moved : RecordsMoved s t) :
    t.DisabledAtReset where
  channels i none_ := by
    rcases moved.channels i with initial | ⟨entry, move⟩
    · exact initial
    · rw [entry] at none_
      rw [move.eq_of_none none_]
      exact h.channels i none_
  zones z disabled := by
    rcases moved.zones z with initial | ⟨entry, stands⟩
    · exact initial
    · rw [entry] at disabled
      rw [stands disabled]
      exact h.zones z disabled
  fans f disabled := by
    rcases moved.fans f with initial | ⟨entry, _, moves⟩
    · exact initial
    · rw [entry] at disabled
      rw [h.fans f disabled] at moves
      exact initial_of_moves_disabled moves disabled

/-- Settles O12, by what `effect_recordsMoved` says that a command can do to a record. -/
theorem stepKeepsDisabledAtReset : Obligations.StepKeepsDisabledAtReset :=
  step_keeps (fun _ _ h => { h with }) fun c s _ h => h.of_moved (effect_recordsMoved c s)

end Sys2Proof.Machine
end

section
/-! SUPPORT. The bank that is active has passed the activation check, and so has that of a pending swap (R175,
R184): kept by every command. -/

namespace Sys2Proof.Machine

/-! ### Operations that leave what has been checked -/

/-- The active bank stands, and a swap that is pending was pending before, for the same bank. -/
structure SameChecked (b c : BankManager) : Prop where
  active : c.activeBank = b.activeBank
  pendingSwap : c.state = .swapPending → b.state = .swapPending ∧ c.standbyBank = b.standbyBank

theorem SameChecked.refl (b : BankManager) : SameChecked b b := ⟨rfl, fun h => ⟨h, rfl⟩⟩

theorem State.BanksChecked.of_same {s t : State} (h : s.BanksChecked) (same : SameChecked s.banks t.banks) :
    t.BanksChecked where
  active m active := h.active m (same.active ▸ active)
  pendingSwap pending := by
    obtain ⟨before, bank⟩ := same.pendingSwap pending
    rw [bank]
    exact h.pendingSwap before

theorem State.BanksChecked.congr {s t : State} (h : s.BanksChecked) (banks : t.banks = s.banks) :
    t.BanksChecked :=
  h.of_same (banks ▸ .refl _)

theorem standbyBank_congr {b c : BankManager} (active : c.active = b.active) (bankA : c.bankA = b.bankA)
    (bankB : c.bankB = b.bankB) : c.standbyBank = b.standbyBank := by
  have id : c.standbyId = b.standbyId := by simp only [BankManager.standbyId, active]
  rw [BankManager.standbyBank, BankManager.standbyBank, id]
  cases b.standbyId
  · exact bankA
  · exact bankB

/-- The bytes and the selection stand and no swap is pending. -/
theorem sameChecked_of_bytes {b c : BankManager} (active : c.active = b.active) (bankA : c.bankA = b.bankA)
    (bankB : c.bankB = b.bankB) (state : c.state = .swapPending → b.state = .swapPending) :
    SameChecked b c :=
  ⟨activeBank_congr active bankA bankB,
    fun pending => ⟨state pending, standbyBank_congr active bankA bankB⟩⟩

/-! ### Requests (R177, R178, R182, R189) -/

theorem writeStandby_state (start : Nat) (bytes : List Byte) (b : BankManager) :
    (writeStandby start bytes b).state = b.state := by
  unfold writeStandby
  split <;> rfl

/-- R178: a TABLE WRITE is taken in IDLE alone, where no swap is pending. -/
theorem sameChecked_serveTableWrite (fields : List Byte) (s : State) :
    SameChecked s.banks (serveTableWrite fields s).banks := by
  have idle : ∀ (start : Nat) (bytes : List Byte), s.banks.state = .idle →
      SameChecked s.banks (writeStandby start bytes s.banks) := fun start bytes h => by
    refine ⟨writeStandby_activeBank start bytes s.banks, fun pending => ?_⟩
    rw [writeStandby_state, h] at pending
    cases pending
  simp only [serveTableWrite]
  repeat' split
  case h_2.isFalse.isFalse free => exact idle _ _ (not_not.1 free)
  all_goals exact .refl _

theorem sameChecked_serveActivate (fields : List Byte) (s : State) :
    SameChecked s.banks (serveActivate fields s).banks := by
  simp only [serveActivate]
  repeat' split
  · exact .refl _
  · exact sameChecked_of_bytes rfl rfl rfl (by simp)
  · exact .refl _

/-- R189: a RESTART ends an activation in progress. -/
theorem sameChecked_serveRestart (fields : List Byte) (s : State) :
    SameChecked s.banks (serveRestart fields s).banks := by
  have aborted : (abortActivation s).banks = { s.banks with state := .idle } := by
    unfold abortActivation
    split
    · next idle => rw [← idle]
    · rfl
  simp only [serveRestart]
  split
  · simp only [buildResponse, aborted]
    exact sameChecked_of_bytes rfl rfl rfl (by simp)
  · exact .refl _

theorem sameChecked_serveRequest (payload : List Byte) (s : State) :
    SameChecked s.banks (serveRequest payload s).banks := by
  unfold serveRequest
  repeat' split
  · exact .refl _
  · exact sameChecked_serveTableWrite _ s
  · rw [serveTableRead_frame]; exact .refl _
  · exact sameChecked_serveActivate _ s
  · rw [serveAcknowledge_frame]; exact .refl _
  · rw [serveStatus_frame]; exact .refl _
  · rw [serveReadChannels_frame]; exact .refl _
  · rw [serveReadZone_frame]; exact .refl _
  · rw [serveReadFan_frame]; exact .refl _
  · exact sameChecked_serveRestart _ s
  · exact .refl _

theorem sameChecked_receiveNorth (t : Telegram) (s : State) :
    SameChecked s.banks (receiveNorth t s).banks := by
  have banks : (reserveReply s.afterArrival).banks = s.banks := by
    rw [reserveReply_banks, afterArrival_frame]
  rcases receiveNorth_cases t s with ⟨_, e⟩ | ⟨_, _, e⟩ | ⟨_, _, _, ⟨_, e⟩ | ⟨_, _, e⟩ | ⟨_, _, e⟩⟩ <;>
    rw [e]
  · exact .refl _
  · exact .refl _
  · rw [afterArrival_frame]; exact .refl _
  · unfold dispatchOwn
    split
    · rw [← banks]; exact sameChecked_serveRequest _ _
    · rw [respond_frame, banks]; exact .refl _
  · rw [dispatchNode_frame, banks]; exact .refl _

/-! ### Activation, swap and resets (R175, R185 to R187) -/

/-- A part with no swap pending, its active bank checked. -/
theorem banksChecked_of_active {s : State} {m : Memory} (active : s.banks.activeBank = some m)
    (checked : firstFailedCheck m = none) (state : s.banks.state = .idle) : s.BanksChecked where
  active n h := by
    rw [active, Option.some.injEq] at h
    rw [← h]
    exact checked
  pendingSwap h := by rw [state] at h; cases h

theorem banksChecked_swapAtClose {s : State} (checked : firstFailedCheck s.banks.standbyBank = none) :
    (swapAtClose s).BanksChecked :=
  banksChecked_of_active (swapAtClose_active s) checked (by rw [swapAtClose_frame])

theorem banksChecked_closeCycle {s : State} (h : s.BanksChecked) : (closeCycle s).BanksChecked := by
  have work : (closeWork s).BanksChecked := h.congr (closeWork_banks s)
  have swap : (closeSwap (closeWork s)).BanksChecked := by
    rcases closeSwap_cases (closeWork s) with ⟨pending, e⟩ | ⟨_, e⟩ <;> rw [e]
    · exact banksChecked_swapAtClose (work.pendingSwap pending)
    · exact work
  have banks : (closeCycle s).banks = (closeSwap (closeWork s)).banks := by
    simp only [closeCycle]
    split
    · rw [cycleStart_banks, closePurge_frame]
    · rw [closePurge_frame]
  exact swap.congr banks

/-- R184 to R186: a check that passes activates the bank that it judged, or leaves its swap pending. -/
theorem banksChecked_checkEndStep {s : State} (h : s.BanksChecked) : (checkEndStep s).BanksChecked := by
  have failed : ∀ result payload, (failActivation result payload s).BanksChecked := fun _ _ =>
    h.of_same (sameChecked_of_bytes rfl rfl rfl fun pending => by cases pending)
  unfold checkEndStep checkEnd
  repeat' split
  · exact failed _ _
  · exact failed _ _
  · next checked _ _ =>
    have banks : (firstActivation s).banks = s.firstActivated.banks := by
      simp [firstActivation_eq, enterPurge]
    refine banksChecked_of_active (m := s.banks.standbyBank) ?_ checked ?_
    · rw [banks]; exact firstActivated_active s
    · rw [banks, firstActivated_banks]
  · next checked _ _ =>
    exact ⟨fun m active => h.active m ((activeBank_congr rfl rfl rfl).symm.trans active), fun _ => checked⟩
  · exact h

theorem banksChecked_reset {s : State} (banks : s.banks = BankManager.initial) : s.BanksChecked :=
  reset_banksChecked.congr banks

theorem banksChecked_receiveSouth (t : Telegram) {take : Transaction → State → State} {s : State}
    (h : s.BanksChecked) (keeps : ∀ tr u, u.BanksChecked → (take tr u).BanksChecked) :
    (receiveSouth t take s).BanksChecked := by
  rcases receiveSouth_cases t take s with ⟨_, e⟩ | ⟨_, _, tr, _, _, e⟩ | ⟨_, _, e⟩ <;> rw [e]
  · exact h
  · exact keeps tr _ (h.congr rfl)
  · exact h.congr rfl

/-! ### All commands -/

theorem effect_keeps_banksChecked (c : Instr) {s : State} (h : s.BanksChecked) :
    (effect c s).BanksChecked := by
  cases c with
  | coldReset r =>
    rcases releaseHold_cases r s with ⟨_, e⟩ | ⟨_, _, e⟩ | ⟨_, _, e⟩ <;> simp only [effect, e]
    · exact h
    · exact h.congr rfl
    · exact banksChecked_reset rfl
  | resetHold k =>
    simp only [effect]
    split
    · exact banksChecked_reset rfl
    · exact h
  | warmReset =>
    simp only [effect]
    split
    · obtain ⟨_, _, _, _, _, banks, _⟩ := warmReset_blocks s
      exact h.of_same (banks ▸ sameChecked_of_bytes rfl rfl rfl (by simp))
    · exact h
  | tableWrite | tableRead | activate | acknowledge | status | readChannels | readZone | readFan | restart
  | driveSet | command | dispatchBadRequest | unknownRequest =>
    exact h.of_same (sameChecked_receiveNorth _ s)
  | reading =>
    exact banksChecked_receiveSouth _ h fun tr u hu => by rw [takeReadingFrom_frame]; exact hu.congr rfl
  | driveStatus =>
    exact banksChecked_receiveSouth _ h fun tr u hu => by rw [takeDriveStatusFrom_frame]; exact hu.congr rfl
  | answer => exact banksChecked_receiveSouth _ h fun tr u hu => by rw [takeAnswer_frame]; exact hu.congr rfl
  | replyWindowExpiry receiving =>
    rcases windowExpiry_cases receiving s with ⟨tr, _, _, e⟩ | ⟨_, e⟩ <;> simp only [effect, e]
    · rw [deliverMiss_frame]; exact h.congr rfl
    · exact h
  | localConversionComplete sample =>
    rcases conversionStep_cases sample s with ⟨i, rest, _, e⟩ | ⟨_, e⟩ <;> simp only [effect, e]
    · rw [takeReading_frame]; exact h.congr rfl
    · exact h
  | cycleTimerExpiry => simp only [effect]; rw [timerExpiry_frame]; exact h.congr rfl
  | cycleClose =>
    simp only [effect]
    split
    · exact banksChecked_closeCycle h
    · exact h
  | fanDrive =>
    rcases fanDriveStep_cases s with ⟨_, f, _, e⟩ | ⟨_, _, e⟩ | ⟨_, e⟩ <;> simp only [effect, e]
    · exact h.congr (by simp [openFanDrive])
    · exact h.congr (by simp)
    · exact h
  | relayTransaction =>
    rcases relayStep_cases s with ⟨_, entry, _, e⟩ | ⟨_, e⟩ <;> simp only [effect, e]
    · exact h.congr (by simp [openRelay])
    · exact h
  | scanTransaction =>
    rcases scanStep_cases s with ⟨_, i, _, e⟩ | ⟨_, e⟩ <;> simp only [effect, e]
    · exact h.congr (by simp [openScan])
    · exact h
  | southRateChange =>
    rcases southRateStep_cases s with ⟨_, _, _, e⟩ | ⟨_, e⟩ <;> simp only [effect, e]
    · exact h.congr rfl
    · exact h
  | northChoice => simp only [effect]; rw [northChoiceStep_frame]; exact h.congr rfl
  | northTransmissionEnd receiving =>
    simp only [effect]
    rw [northSent_frame]
    exact h.of_same (sameChecked_of_bytes rfl rfl rfl id)
  | activationCheckEnd => exact banksChecked_checkEndStep h
  | purgeTimerExpiry =>
    rcases purgeTimerStep_cases s with ⟨_, _, e⟩ | e <;> simp only [effect, e]
    · rw [purgeExpiry_frame]; exact h.congr rfl
    · exact h
  | supervisorSilenceExpiry =>
    rcases silenceExpiry_cases s with ⟨_, _, e⟩ | ⟨_, e⟩ <;> simp only [effect, e]
    · exact h.congr (by simp)
    · exact h
  | tachPulse | pwmPeriodEnd => exact h.congr rfl
  | lineIdle line => simp only [effect]; rw [idleStep_frame]; exact h.congr rfl
  | telegramAbandoned line cause =>
    rcases abandonStep_cases line cause s with ⟨_, e⟩ | ⟨_, e⟩ <;> simp only [effect, e]
    · rw [endReception_frame]; exact h.congr rfl
    · exact h
  | discardedTelegram line chars =>
    rcases discardStep_cases line chars s with ⟨_, _, e⟩ | ⟨_, e⟩ <;> simp only [effect, e]
    · rw [endReception_frame]; exact h.congr rfl
    · exact h
  | southTransmissionEnd =>
    rcases southSent_cases s with ⟨_, e⟩ | ⟨_, e⟩ <;> simp only [effect, e]
    · exact h.congr rfl
    · exact h

end Sys2Proof.Machine
end

section
/-! Miss and fail counts below their limits until FAILED, duties within 100 and full duty outside RUN (R51, R94,
R95, R101, R103, R104, R110, R122). Settles StepKeepsCountsAndDuties. -/

namespace Sys2Proof.Machine

/-! ### The limits that the checks give (R184) -/

/-- R184 checks 4, 5 and 8: the limits of the entries in use. -/
structure Memory.Limited (m : Memory) : Prop where
  misses : ∀ i : Fin 64, (channelOf m i).kind ≠ .none → 1 ≤ (channelOf m i).missLimit
  duties : ∀ z, z < 8 → (zoneOf m z).enable = true → (zoneOf m z).minDuty ≤ 100
  fails : ∀ f : Fin 16, (fanOf m f).enable = true → 1 ≤ (fanOf m f).failCycles

theorem passes_of_checked {m : Memory} (checked : firstFailedCheck m = none) :
    ∀ c ∈ numberedChecks m, c.2 = true := by
  rw [firstFailedCheck, Option.map_eq_none_iff, List.find?_eq_none] at checked
  exact fun c hc => by simpa using checked c hc

theorem limited_of_checked {m : Memory} (checked : firstFailedCheck m = none) : m.Limited := by
  have passes := passes_of_checked checked
  have channels : check4 m = true := passes (4, check4 m) (by simp [numberedChecks])
  have zones : check5 m = true := passes (5, check5 m) (by simp [numberedChecks])
  have fans : check8 m = true := passes (8, check8 m) (by simp [numberedChecks])
  simp only [check4, check5, check8, List.all_map, List.all_eq_true, List.mem_range, Function.comp_apply]
    at channels zones fans
  refine ⟨fun i used => ?_, fun z inside enabled => ?_, fun f enabled => ?_⟩
  · have entry := channels i i.isLt
    simp only [channelPasses, inRange, Bool.or_eq_true, Bool.and_eq_true, beq_iff_eq, decide_eq_true_eq, used,
      false_or] at entry
    obtain ⟨⟨⟨_, limit, _⟩, _⟩, _⟩ := entry
    exact limit
  · have entry := zones z inside
    simp only [zonePasses, inRange, Bool.or_eq_true, Bool.and_eq_true, decide_eq_true_eq, enabled,
      Bool.not_true, Bool.false_eq_true, false_or] at entry
    obtain ⟨_, _, duty⟩ := entry
    exact duty
  · have entry := fans f f.isLt
    simp only [fanPasses, inRange, Bool.or_eq_true, Bool.and_eq_true, decide_eq_true_eq, enabled,
      Bool.not_true, Bool.false_eq_true, false_or] at entry
    obtain ⟨⟨_, cycles, _⟩, _⟩ := entry
    exact cycles

/-- With no table nothing is in use. -/
theorem limited_nil : Memory.Limited [] where
  misses i used := absurd (channelOf_reset_kind i) used
  duties z _ enabled := by simp [zoneOf, Memory.byteAt, Memory.read] at enabled
  fails f enabled := by rw [← reset_tables, fanOf_reset_enable] at enabled; cases enabled

theorem State.BanksChecked.limited {s : State} (h : s.BanksChecked) : s.tables.Limited := by
  cases active : s.banks.activeBank with
  | none => rw [State.tables, active]; exact limited_nil
  | some m => rw [tables_of_active active]; exact limited_of_checked (h.active m active)

/-! ### Channels (R51, R52) -/

/-- R51: the miss count of a channel is below its limit, and reaches it only in FAILED. -/
def ChannelRec.Counted (e : ChannelEntry) (r : ChannelRec) : Prop :=
  r.missCount ≤ e.missLimit ∧ (r.health ≠ .failed → r.missCount < e.missLimit)

theorem counted_takeEvent {e : ChannelEntry} {r : ChannelRec} (limit : 1 ≤ e.missLimit) (h : r.Counted e)
    (ev : ChannelEvent) : (r.takeEvent e ev).Counted e := by
  obtain ⟨bound, below⟩ := h
  cases ev with
  | valid v =>
    rw [ChannelRec.takeEvent, takeValid_eq]
    repeat' split
    · exact ⟨Nat.zero_le _, fun _ => limit⟩
    · exact ⟨bound, below⟩
    · exact ⟨Nat.zero_le _, fun _ => limit⟩
  | miss =>
    rw [ChannelRec.takeEvent, takeMiss_eq]
    by_cases failed : r.health = .failed
    · rw [if_pos failed]
      exact ⟨bound, below⟩
    rw [if_neg failed]
    split
    · next reached => exact ⟨reached.le, fun c => absurd rfl c⟩
    · next short =>
      have counted : r.missCount + 1 < e.missLimit := lt_of_le_of_ne (below failed) short
      exact ⟨counted.le, fun _ => counted⟩
  | warmup =>
    rw [ChannelRec.takeEvent, takeWarmup_eq]
    split
    · exact ⟨bound, below⟩
    · exact ⟨Nat.zero_le _, fun _ => limit⟩
  | fault => exact ⟨Nat.le_refl _, fun c => absurd rfl c⟩

theorem ChannelMove.counted {e : ChannelEntry} {r r' : ChannelRec} (move : ChannelMove e r r')
    (limit : 1 ≤ e.missLimit) (h : r.Counted e) : r'.Counted e := by
  cases move with
  | kept => exact h
  | event _ raw ev => exact counted_takeEvent (r := { r with lastRaw := raw }) limit h ev
  | forwarded _ raw ev => exact counted_takeEvent (r := { r with lastRaw := raw }) limit h ev

/-! ### Fans (R95, R101, R103, R104, R110) -/

/-- R94, R95, R101, R103, R104, R110, R122: the counts and the duties of a fan with an entry in a device
state. -/
structure FanRec.Within (e : FanEntry) (device : DeviceState) (r : FanRec) : Prop where
  fails : e.enable = true →
    r.failCount ≤ e.failCycles ∧ (r.health ≠ .failed → r.failCount < e.failCycles)
  good : r.goodCount ≤ 15
  allocated : r.allocated ≤ 100
  commanded : r.commanded ≤ 100
  manual : ∀ v, r.manual = some v → v ≤ 100
  lastSent : ∀ v, r.lastSent = some v → v ≤ 100
  sinceSent : r.sinceSent ≤ 16
  full : device ≠ .run → r.commanded = 100

theorem within_initial {e : FanEntry} (device : DeviceState) (limit : e.enable = true → 1 ≤ e.failCycles) :
    FanRec.initial.Within e device where
  fails enabled := ⟨Nat.zero_le _, fun _ => limit enabled⟩
  good := Nat.zero_le _
  allocated := Nat.le_refl _
  commanded := Nat.le_refl _
  manual v h := by cases h
  lastSent v h := by cases h
  sinceSent := Nat.zero_le _
  full _ := rfl

/-- R95: a sample writes the health and the two counts. -/
theorem FanRec.Within.takeSample {e : FanEntry} {device : DeviceState} {r : FanRec} (h : r.Within e device)
    (limit : 1 ≤ e.failCycles) (enabled : e.enable = true) (sample : FanSample) :
    (r.takeSample e sample).Within e device := by
  obtain ⟨_, below⟩ := h.fails enabled
  cases sample with
  | good => exact { h with fails := fun _ => ⟨Nat.zero_le _, fun _ => limit⟩, good := Nat.min_le_right _ _ }
  | driveFault =>
    exact { h with fails := fun _ => ⟨Nat.le_refl _, fun c => absurd rfl c⟩, good := Nat.zero_le _ }
  | bad =>
    have counts : (r.afterBad e).failCount ≤ e.failCycles ∧
        ((r.afterBad e).health ≠ .failed → (r.afterBad e).failCount < e.failCycles) := by
      by_cases failed : r.health = .failed
      · simp [FanRec.afterBad, failed]
      · have short := below failed
        by_cases reached : r.failCount + 1 = e.failCycles
        · simp [FanRec.afterBad, failed, reached]
        · simp only [FanRec.afterBad, failed, reached, if_false, or_self]
          omega
    rw [FanRec.takeSample, takeBad_eq_afterBad]
    exact { h with fails := fun _ => counts, good := Nat.zero_le _ }

/-- R103: the duty commanded is the larger of the allocated one and the setpoint, and full outside RUN. -/
theorem FanRec.Within.recommand {e : FanEntry} {device : DeviceState} {r : FanRec} (h : r.Within e device) :
    (r.recommand device).Within e device := by
  have setpoint : r.manual.getD 0 ≤ 100 := by
    cases manual : r.manual with
    | none => exact Nat.zero_le _
    | some v => exact h.manual v manual
  cases device with
  | run => exact { h with commanded := max_le h.allocated setpoint, full := fun c => absurd rfl c }
  | purge | unconfigured => exact { h with commanded := Nat.le_refl _, full := fun _ => rfl }

/-- R101: a zone is allocated a duty of at most 100. -/
theorem allocateZone_le {m : Memory} (fans : Vector FanRec 16) {zone : Nat} (z : ZoneRec)
    (minDuty : (zoneOf m zone).minDuty ≤ 100) : (allocateZone m fans zone z).1 ≤ 100 := by
  simp only [allocateZone, allocate]
  repeat' split
  · exact Nat.le_refl _
  · exact Nat.le_refl _
  · exact Nat.le_refl _
  · next small => exact max_le (Nat.not_lt.1 small) minDuty

theorem FanMove.within {m : Memory} (limited : m.Limited) {f : Fin 16} {device : DeviceState} {r r' : FanRec}
    (move : FanMove m f device r r') (h : r.Within (fanOf m f) device) : r'.Within (fanOf m f) device := by
  cases move with
  | told => exact { h with }
  | sampled enabled sample => exact h.takeSample (limited.fails f enabled) enabled sample
  | allocated _ fans inside zoneEnabled z =>
    exact { h with allocated := allocateZone_le fans z (limited.duties _ inside zoneEnabled) }
  | recommanded => exact h.recommand
  | flagged => exact { h with sinceSent := Nat.min_le_right _ _ }
  | sent =>
    exact { h with
      lastSent := fun v sent => by cases sent; exact h.commanded
      sinceSent := Nat.zero_le _ }
  | @absorbed _ speed legal =>
    have setpoint : FanRec.Within (fanOf m f) device
        { r with manual := if speed = 255 then none else some speed } :=
      { h with
        manual := fun v manual => by
          split at manual
          · cases manual
          · next other =>
            cases manual
            exact legal.resolve_right other }
    exact { setpoint.recommand with }
  | dropped =>
    have cleared : FanRec.Within (fanOf m f) device { r with manual := none } :=
      { h with manual := fun v manual => by cases manual }
    unfold FanRec.dropManual
    split
    · exact { cleared.recommand with }
    · exact h
  | cleared => exact { h with }

theorem within_of_moves {m : Memory} (limited : m.Limited) {f : Fin 16} {device : DeviceState} {r r' : FanRec}
    (moves : Relation.ReflTransGen (FanMove m f device) r r') (h : r.Within (fanOf m f) device) :
    r'.Within (fanOf m f) device := by
  induction moves with
  | refl => exact h
  | tail _ move ih => exact move.within limited ih

/-- R122: RUN asks for no full duty. -/
theorem FanRec.Within.enter {e : FanEntry} {device next : DeviceState} {r : FanRec} (h : r.Within e device)
    (entered : next = device ∨ next = .run) : r.Within e next := by
  rcases entered with rfl | rfl
  · exact h
  · exact { h with full := fun c => absurd rfl c }

/-! ### The part -/

theorem State.CountsAndDuties.fan {s : State} (h : s.CountsAndDuties) (f : Fin 16) :
    s.alloc.fans[f].Within (fanOf s.tables f) s.control.device :=
  ⟨h.fails f, h.goods f, h.allocated f, h.commanded f, h.manual f, h.lastSent f, h.sinceSent f,
    fun outside => h.fullOutsideRun outside f⟩

/-- The invariant of a state is that of its banks and of its records. -/
theorem countsAndDuties_of_records {s : State} (checked : s.BanksChecked)
    (channels : ∀ i : Fin 64, (channelOf s.tables i).kind ≠ .none →
      s.store.channels[i].Counted (channelOf s.tables i))
    (fans : ∀ f : Fin 16, s.alloc.fans[f].Within (fanOf s.tables f) s.control.device) :
    s.CountsAndDuties where
  checked := checked
  misses := channels
  fails f := (fans f).fails
  goods f := (fans f).good
  allocated f := (fans f).allocated
  commanded f := (fans f).commanded
  manual f := (fans f).manual
  lastSent f := (fans f).lastSent
  sinceSent f := (fans f).sinceSent
  fullOutsideRun outside f := (fans f).full outside

/-- Reset values are within the limits of the tables after a command, moves within those before it. -/
theorem State.CountsAndDuties.of_moved {s t : State} (h : s.CountsAndDuties) (checked : t.BanksChecked)
    (moved : RecordsMoved s t) : t.CountsAndDuties := by
  have before := h.checked.limited
  have after := checked.limited
  refine countsAndDuties_of_records checked (fun i used => ?_) (fun f => ?_)
  · rcases moved.channels i with initial | ⟨entry, move⟩
    · rw [initial]
      exact ⟨Nat.zero_le _, fun _ => after.misses i used⟩
    · rw [entry] at used ⊢
      exact move.counted (before.misses i used) (h.misses i used)
  · rcases moved.fans f with initial | ⟨entry, device, moves⟩
    · rw [initial]
      exact within_initial _ (after.fails f)
    · rw [entry]
      exact (within_of_moves before moves (h.fan f)).enter device

/-- Settles O14: the banks stay checked, and what `effect_recordsMoved` says that a command can do to a record
keeps its counts and duties. -/
theorem stepKeepsCountsAndDuties : Obligations.StepKeepsCountsAndDuties :=
  step_keeps (fun _ _ h => { h with checked := h.checked.congr rfl }) fun c s _ h =>
    h.of_moved (effect_keeps_banksChecked c h.checked) (effect_recordsMoved c s)

end Sys2Proof.Machine
end

section
/-! The runtime readers. Settles RuntimeReadersReturnRecords. -/

namespace Sys2Proof.Machine

/-! ### Records in index order (R180) -/

/-- The records of a span of a table, one after another, in index order. -/
theorem flatMap_span {α β : Type} {n : Nat} (v : Vector α n) (f : α → List β) (first count : Nat) :
    ((v.toList.drop first).take count).flatMap f =
      (List.range count).flatMap fun k => (v[first + k]?.map f).getD [] := by
  induction count with
  | zero => rfl
  | succ k ih =>
    have record : (v.toList.drop first)[k]? = v[first + k]? := by
      rw [List.getElem?_drop, Vector.getElem?_toList]
    rw [List.take_add_one, List.flatMap_append, ih, List.range_succ, List.flatMap_append, record,
      List.flatMap_singleton]
    cases v[first + k]? <;> simp

/-! ### Each reader (R91, R180) -/

/-- R180: at most four channel records fit an answer. -/
theorem serveReadChannels_span {first count : Byte} (nonzero : 1 ≤ count.toNat)
    (inside : first.toNat + count.toNat ≤ 64) (fit : count.toNat ≤ 4) (s : State) :
    serveReadChannels [first, count] s = respondOwn codeReadChannels .done
      ([first, count] ++ (List.range count.toNat).flatMap fun k =>
        (s.store.channels[first.toNat + k]?.map channelBytes).getD []) s := by
  rw [serveReadChannels, if_neg (by bv_omega), flatMap_span]

theorem serveReadChannels_bad {first count : Byte}
    (bad : count.toNat = 0 ∨ 64 < first.toNat + count.toNat ∨ 4 < count.toNat) (s : State) :
    serveReadChannels [first, count] s = respondOwn codeReadChannels .badRequest [] s := by
  rw [serveReadChannels, if_pos (by bv_omega)]

/-- R180: at most three fan records fit an answer. -/
theorem serveReadFan_span {first count : Byte} (nonzero : 1 ≤ count.toNat)
    (inside : first.toNat + count.toNat ≤ 16) (fit : count.toNat ≤ 3) (s : State) :
    serveReadFan [first, count] s = respondOwn codeReadFan .done
      ([first, count] ++ (List.range count.toNat).flatMap fun k =>
        (s.alloc.fans[first.toNat + k]?.map fanBytes).getD []) s := by
  rw [serveReadFan, if_neg (by bv_omega), flatMap_span]

theorem serveReadFan_bad {first count : Byte}
    (bad : count.toNat = 0 ∨ 16 < first.toNat + count.toNat ∨ 3 < count.toNat) (s : State) :
    serveReadFan [first, count] s = respondOwn codeReadFan .badRequest [] s := by
  rw [serveReadFan, if_pos (by bv_omega)]

theorem serveReadZone_zone {zone : Byte} {z : Fin 8} (named : zone.toNat = z.val) (s : State) :
    serveReadZone [zone] s = respondOwn codeReadZone .done (zoneBytes z.val s.zones[z]) s := by
  rw [serveReadZone, dif_pos (named ▸ z.isLt)]
  simp only [named, Fin.getElem_fin]

theorem serveReadZone_bad {zone : Byte} (outside : 8 ≤ zone.toNat) (s : State) :
    serveReadZone [zone] s = respondOwn codeReadZone .badRequest [] s := by
  rw [serveReadZone, dif_neg (Nat.not_lt.2 outside)]

/-! ### The statement -/

/-- R14, R177: a request served by one response from the own address is answered with it. -/
theorem live_receiveRequest_of_served {s : State} (open_ : s.northOpen) (free : s.replyFree) {code : Byte}
    {fields : List Byte} {result : ResultCode} {payload : List Byte} (fit : fields.length ≤ 47)
    (served : serveRequest (code :: fields) (reserveReply s.afterArrival) =
      respondOwn code result payload (reserveReply s.afterArrival)) :
    live (receiveRequest code fields) s = .next (s.afterArrival.answered s.address code result payload) := by
  rw [live_receiveRequest open_ free code fit, served, respondOwn_afterArrival]

/-- The records that the readers return stand through the arrival of the request. -/
theorem reserved_afterArrival_records (s : State) :
    (reserveReply s.afterArrival).store = s.store ∧ (reserveReply s.afterArrival).zones = s.zones ∧
      (reserveReply s.afterArrival).alloc = s.alloc := by
  rw [reserveReply_store, reserveReply_zones, reserveReply_alloc, afterArrival_frame]
  exact ⟨rfl, rfl, rfl⟩

/-- Settles O27, reader by reader: the request is taken in and served from the records as they stood. -/
theorem runtimeReadersReturnRecords : Obligations.RuntimeReadersReturnRecords := by
  intro s first count open_ free
  obtain ⟨store, zones, alloc⟩ := reserved_afterArrival_records s
  have two : [first, count].length ≤ 47 := by simp
  have one : [first].length ≤ 47 := by simp
  refine ⟨fun nonzero inside fit => ?_, fun bad => ?_, fun z named => ?_, fun outside => ?_,
    fun nonzero inside fit => ?_, fun bad => ?_⟩
  · rw [← store]
    exact live_receiveRequest_of_served open_ free two (serveReadChannels_span nonzero inside fit _)
  · exact live_receiveRequest_of_served open_ free two (serveReadChannels_bad bad _)
  · rw [← zones]
    exact live_receiveRequest_of_served open_ free one (serveReadZone_zone named _)
  · exact live_receiveRequest_of_served open_ free one (serveReadZone_bad outside _)
  · rw [← alloc]
    exact live_receiveRequest_of_served open_ free two (serveReadFan_span nonzero inside fit _)
  · exact live_receiveRequest_of_served open_ free two (serveReadFan_bad bad _)

end Sys2Proof.Machine
end

section
/-! The zone evaluation of a close, stage by stage. Settles CloseEvaluatesTheZones. -/

namespace Sys2Proof.Machine

/-! ### The channels of a zone (R67, R70, R72, R79, R81, R82) -/

/-- R70: the gas set is that of the statements. -/
theorem gasSet_eq_gasChannels (s : State) (z : Nat) :
    gasSet s.tables s.store.channels z = s.gasChannels z := by
  unfold gasSet zoneChannels State.gasChannels
  rw [List.filter_filter]
  exact List.filter_congr fun i _ => Bool.and_comm _ _

/-- R72: the new value is the held one, or the largest of the gas set. -/
theorem newValue_eq_peak (s : State) (z held : Nat) :
    newValue s.tables s.store.channels z held =
      if s.gasChannels z = [] then held
      else ((s.gasChannels z).map fun (i : Fin 64) => s.store.channels[i].value).foldl max 0 := by
  unfold newValue
  rw [gasSet_eq_gasChannels]
  cases s.gasChannels z with
  | nil => simp
  | cons i rest => simp [List.foldl_map]

/-- R81, R82: the current that the zone's monitors contribute. -/
theorem zoneCurrentSum_eq_currentSum (s : State) (z : Nat) :
    zoneCurrentSum s.tables s.store.channels z = s.currentSum z := by
  simp only [zoneCurrentSum, zoneChannels, channelCurrent, State.currentSum, ChannelRec.usable,
    Bool.or_eq_true, beq_iff_eq]

/-! ### The ring (R74, R75) -/

/-- R74: an append keeps the newest five entries before the new one. -/
theorem ringAppend_eq (ring : List Nat) (v : Nat) :
    ringAppend ring v = (if ring.length < 6 then ring else ring.drop (ring.length - 5)) ++ [v] := by
  unfold ringAppend
  rw [List.drop_append_of_le_length (by simp), List.length_append, List.length_singleton]
  split
  · rw [show ring.length + 1 - 6 = 0 by omega, List.drop_zero]
  · rw [show ring.length + 1 - 6 = ring.length - 5 by omega]

/-- R75: after an append the newest entry is the one appended. -/
theorem ringRate_ringAppend (ring : List Nat) (v : Nat) :
    ringRate (ringAppend ring v) = (v : Int) - (((ringAppend ring v).headD 0 : Nat) : Int) := by
  have newest : (ringAppend ring v).getLastD 0 = v := by rw [ringAppend_eq, List.getLastD_concat]
  rw [ringRate, newest]

/-! ### The bands (R76 to R78) -/

/-- R76: the candidate's entry level is reached, and no higher band's is. -/
theorem candidateBand_is_highest (e : ZoneEntry) (held : Nat) :
    e.entryLevel (candidateBand e held) ≤ held ∧
      ∀ b, bandCode (candidateBand e held) < bandCode b → held < e.entryLevel b := by
  unfold candidateBand
  split_ifs with danger alarm elevated
  · exact ⟨danger, fun b above => by cases b <;> simp [bandCode] at above⟩
  · exact ⟨alarm, fun b above => by cases b <;> simp_all [bandCode, ZoneEntry.entryLevel]⟩
  · exact ⟨elevated, fun b above => by cases b <;> simp_all [bandCode, ZoneEntry.entryLevel]⟩
  · exact ⟨Nat.zero_le _, fun b above => by cases b <;> simp_all [bandCode, ZoneEntry.entryLevel]⟩

/-- R77: a band rises to the candidate at once. -/
theorem storedBand_of_candidate {e : ZoneEntry} {held : Nat} {current : Band}
    (reached : bandCode current ≤ bandCode (candidateBand e held)) :
    storedBand e held current = candidateBand e held := if_pos reached

/-- R77: the bands that a fall tries, from the highest down. -/
def fallBands (current : Band) : List Band :=
  [Band.danger, .alarm, .elevated].filter fun b => bandCode b ≤ bandCode current

/-- R77: below the current band, the first band tried that the hysteresis keeps is stored, or NORMAL. -/
theorem storedBand_of_above {e : ZoneEntry} {held : Nat} {current : Band}
    (above : bandCode (candidateBand e held) < bandCode current) :
    storedBand e held current = ((fallBands current).find? (keepsBand e held)).getD .normal :=
  if_neg (Nat.not_le.2 above)

theorem mem_fallBands {current b : Band} :
    b ∈ fallBands current ↔ 0 < bandCode b ∧ bandCode b ≤ bandCode current := by
  rw [fallBands, List.mem_filter, decide_eq_true_eq]
  refine and_congr_left fun _ => ?_
  cases b <;> decide

theorem fallBands_descend (current : Band) :
    (fallBands current).Pairwise fun b c => bandCode c < bandCode b :=
  List.Pairwise.filter _ (by decide)

theorem keepsBand_eq_false_iff {e : ZoneEntry} {held : Nat} {b : Band} :
    keepsBand e held b = false ↔ held + e.hysteresis < e.entryLevel b := by
  rw [keepsBand, decide_eq_false_iff_not, Nat.not_le]

/-- R77: a band falls to the highest band, from the current one down, that the hysteresis keeps. -/
theorem storedBand_of_fall {e : ZoneEntry} {held : Nat} {current : Band}
    (above : bandCode (candidateBand e held) < bandCode current) :
    e.entryLevel (storedBand e held current) ≤ held + e.hysteresis ∧
      bandCode (storedBand e held current) ≤ bandCode current ∧
      ∀ b, bandCode (storedBand e held current) < bandCode b → bandCode b ≤ bandCode current →
        held + e.hysteresis < e.entryLevel b := by
  rw [storedBand_of_above above]
  cases found : (fallBands current).find? (keepsBand e held) with
  | none =>
    refine ⟨Nat.zero_le _, Nat.zero_le _, fun b higher lower => keepsBand_eq_false_iff.1 ?_⟩
    exact Bool.eq_false_iff.2 (List.find?_eq_none.1 found b (mem_fallBands.2 ⟨higher, lower⟩))
  | some kept =>
    obtain ⟨keeps, before, after, split, passed⟩ := List.find?_eq_some_iff_append.1 found
    refine ⟨of_decide_eq_true keeps, (mem_fallBands.1 (List.mem_of_find?_eq_some found)).2,
      fun b higher lower => keepsBand_eq_false_iff.1 ?_⟩
    have tried : b ∈ fallBands current := mem_fallBands.2 ⟨Nat.zero_lt_of_lt higher, lower⟩
    have descend := fallBands_descend current
    rw [split] at tried descend
    rcases List.mem_append.1 tried with early | late
    · simpa using passed b early
    · obtain ⟨_, tail, _⟩ := List.pairwise_append.1 descend
      obtain ⟨below, _⟩ := List.pairwise_cons.1 tail
      rcases List.mem_cons.1 late with rfl | late
      · exact absurd higher (Nat.lt_irrefl _)
      · exact absurd (below b late) (Nat.lt_asymm higher)

/-- R78: a NORMAL zone whose rate condition holds is ELEVATED in effect. -/
theorem effectiveBand_eq (e : ZoneEntry) (rate : Int) (stored : Band) :
    effectiveBand e rate stored =
      if stored = .normal ∧ e.rateLimit ≠ 0 ∧ (e.rateLimit : Int) ≤ rate then .elevated else stored := by
  simp only [effectiveBand, rateCondition, Bool.and_eq_true, bne_iff_ne, decide_eq_true_eq]

/-! ### The spill flag and the airflows (R80, R83) -/

/-- R80: the flag is set by a trip, and kept while its source waits to be acknowledged. -/
theorem spillFlag_iff {tripped flag : Bool} {source : SourceState} :
    spillFlag tripped source flag = true ↔
      tripped = true ∨ (flag = true ∧ (source = .raised ∨ source = .returned)) := by
  cases tripped
  · cases source <;> simp [spillFlag]
  · simp [spillFlag]

/-- R83: DANGER asks for everything, any other band for the largest of its floor, the generation and the
spill airflow. -/
theorem requiredAirflow_eq (e : ZoneEntry) (effective : Band) (spill : Bool) (qGen : Nat) :
    requiredAirflow e effective spill qGen =
      if effective = .danger then 65535
      else max (max qGen
          (if effective = .normal then e.qN else if effective = .elevated then e.qE else e.qA))
        (if spill = true then e.qS else 0) := by
  cases effective <;> rfl

/-! ### The zones after a plain close (R69) -/

/-- Settles O46: an enabled zone's record is its evaluation but for the shortfall, stage by stage. -/
theorem closeEvaluatesTheZones : Obligations.CloseEvaluatesTheZones := by
  intro s plain
  obtain ⟨t, after⟩ : ∃ t, t = if closeIsLate s then cycleStart (closeWork s) else closeWork s := ⟨_, rfl⟩
  refine ⟨t, by rw [exec_cycleClose_of_plain plain, ← after], fun z e old new peak he hold hnew hpeak => ?_⟩
  have record := closeWork_zone s z
  have zones : t.zones[z] = (closeWork s).zones[z] := by rw [plainClose_frame after]
  rw [← zones, ← hnew, ← hold, ← he] at record
  refine ⟨fun disabled => by rw [record, if_neg (by simp [disabled])], fun enabled => ?_⟩
  rw [if_pos enabled] at record
  have held : new.held = filterStep e.decay peak old.held := by
    rw [record, hpeak, he, ← newValue_eq_peak]; rfl
  have ring : new.ring = ringAppend old.ring new.held := by rw [record]; rfl
  have rate : new.rate = ringRate new.ring := by rw [record]; rfl
  have stored : new.stored = storedBand e new.held old.stored := by rw [record, he]; rfl
  have effective : new.effective = effectiveBand e new.rate new.stored := by rw [record, he]; rfl
  have spill : new.spill = spillFlag (zoneTripped s.tables s.store.channels z)
      s.alarm.sources[spillSource z].state old.spill := by rw [record]; rfl
  have qGen : new.qGen = generationAirflow e.kq (s.currentSum z) := by
    rw [record, he, ← zoneCurrentSum_eq_currentSum]; rfl
  have qReq : new.qReq = requiredAirflow e new.effective new.spill new.qGen := by rw [record, he]; rfl
  obtain ⟨reached, highest⟩ := candidateBand_is_highest e new.held
  refine ⟨?_, held, ring.trans (ringAppend_eq _ _), ?_,
    ⟨candidateBand e new.held, reached, highest, fun up => stored.trans (storedBand_of_candidate up),
      fun above => ?_⟩,
    effective.trans (effectiveBand_eq _ _ _), ?_, qGen, qReq.trans (requiredAirflow_eq _ _ _ _)⟩
  · rw [record, he, ← gasSet_eq_gasChannels]
    exact decide_eq_true_iff
  · rw [rate, ring, ringRate_ringAppend]
  · rw [stored]
    exact storedBand_of_fall above
  · rw [spill, spillFlag_iff, zoneTripped_iff]
    rfl

end Sys2Proof.Machine
end

section
/-! What the device state fixes in the other blocks (R118, R119, R121, R125, R133 to R135, R163), kept by every
command. Settles StepKeepsDeviceCoherent. -/

namespace Sys2Proof.Machine

/-! ### Operations that the invariant does not see -/

/-- What the invariant reads stands as it was, and no swap comes to be pending. A field that stands by
definition need not be given. -/
structure SameDevice (s t : State) : Prop where
  hold : t.hold = s.hold := by rfl
  control : t.control = s.control := by rfl
  active : t.banks.active = s.banks.active := by rfl
  swap : t.banks.state = .swapPending → s.banks.state = .swapPending := by exact id
  inhibit : t.alloc.inhibit = s.alloc.inhibit := by rfl
  overrun : t.scan.overrun = s.scan.overrun := by rfl
  lost : t.north.supervisorLost = s.north.supervisorLost := by rfl
  silence : t.north.silence = s.north.silence := by rfl
  conditions : ∀ i : Fin 77, 72 ≤ i.val → i.val ≤ 75 →
    t.alarm.sources[i].condition = s.alarm.sources[i].condition := by intros; rfl

theorem SameDevice.trans {s t u : State} (h : SameDevice s t) (k : SameDevice t u) : SameDevice s u where
  hold := k.hold.trans h.hold
  control := k.control.trans h.control
  active := k.active.trans h.active
  swap := h.swap ∘ k.swap
  inhibit := k.inhibit.trans h.inhibit
  overrun := k.overrun.trans h.overrun
  lost := k.lost.trans h.lost
  silence := k.silence.trans h.silence
  conditions i low high := (k.conditions i low high).trans (h.conditions i low high)

theorem State.DeviceCoherent.of_same {s t : State} (h : s.DeviceCoherent) (same : SameDevice s t) :
    t.DeviceCoherent where
  bank := by rw [same.control, same.active]; exact h.bank
  ready := by rw [same.control]; exact h.ready
  purgeTimer := by rw [same.control]; exact h.purgeTimer
  inhibit := by rw [same.control, same.inhibit]; exact h.inhibit
  swap pending := by rw [same.active]; exact h.swap (same.swap pending)
  unconfigured := by
    rw [State.held, same.hold, same.control, same.conditions 72 (by decide) (by decide)]
    exact h.unconfigured
  purge := by rw [same.control, same.conditions 73 (by decide) (by decide)]; exact h.purge
  overrun := by rw [same.overrun, same.conditions 74 (by decide) (by decide)]; exact h.overrun
  lost := by rw [same.lost, same.conditions 75 (by decide) (by decide)]; exact h.lost
  silence := by rw [same.lost, same.silence]; exact h.silence
  quiet := by rw [same.control, same.silence]; exact h.quiet

/-- R131: a source that is handed a condition holds it. -/
theorem SourceRec.handed_condition (cls : AlarmClass) (holds : Bool) (r : SourceRec) :
    (r.handed cls holds).condition = holds := by
  obtain ⟨state, condition, notice⟩ := r
  cases condition <;> cases holds <;> cases state <;> rfl

/-- R131: a handed condition stands at its own source, and the others stand as they were. -/
theorem handCondition_condition (i j : Fin 77) (holds : Bool) (s : State) :
    (handCondition i holds s).alarm.sources[j].condition =
      if j.val = i.val then holds else s.alarm.sources[j].condition := by
  rw [handCondition_source_val]
  split
  · exact SourceRec.handed_condition _ _ _
  · rfl

/-- The Alarm Unit is read for the conditions of the device sources alone. -/
theorem sameDevice_of_alarm {s : State} {alarm : AlarmUnit}
    (conditions : ∀ i : Fin 77, 72 ≤ i.val → i.val ≤ 75 →
      alarm.sources[i].condition = s.alarm.sources[i].condition) :
    SameDevice s { s with alarm := alarm } :=
  { conditions := conditions }

/-- Of the Allocator the interlock alone is read, and of the PWM Unit nothing. -/
theorem sameDevice_of_fans {s : State} {fans : Vector FanRec 16} :
    SameDevice s { s with alloc := { s.alloc with fans := fans } } := {}

theorem sameDevice_of_pwm {s : State} {pwm : PwmUnit} : SameDevice s { s with pwm := pwm } := {}

theorem sameDevice_evalRelays (s : State) : SameDevice s (evalRelays s) :=
  sameDevice_of_alarm fun _ _ _ => rfl

/-! ### Requests and arrivals (R142, R163, R164, R178, R182, R189) -/

theorem sameDevice_respond (source echo : Byte) (result : ResultCode) (payload : List Byte) (s : State) :
    SameDevice s (respond source echo result payload s) := {}

theorem sameDevice_serveTableWrite (fields : List Byte) (s : State) :
    SameDevice s (serveTableWrite fields s) where
  active := serveTableWrite_active fields s
  swap pending := ((sameChecked_serveTableWrite fields s).pendingSwap pending).1
  hold := by rw [serveTableWrite_frame]
  control := by rw [serveTableWrite_frame]
  inhibit := by rw [serveTableWrite_frame]
  overrun := by rw [serveTableWrite_frame]
  lost := by
    simp only [serveTableWrite]
    repeat' split
    all_goals rfl
  silence := by
    simp only [serveTableWrite]
    repeat' split
    all_goals rfl
  conditions := by rw [serveTableWrite_frame]; intros; rfl

theorem sameDevice_serveActivate (fields : List Byte) (s : State) : SameDevice s (serveActivate fields s) := by
  unfold serveActivate
  repeat' split
  · exact {}
  · exact { swap := by simp }
  · exact {}

/-- R142: an acknowledgement moves sources and touches no condition. -/
theorem sameDevice_serveAcknowledge (fields : List Byte) (s : State) :
    SameDevice s (serveAcknowledge fields s) := by
  have moved : ∀ sel, SameDevice s (acknowledgeSources sel s) := fun sel =>
    sameDevice_of_alarm fun i _ _ => by
      rw [fin_getElem_mapFin]
      split <;> rfl
  unfold serveAcknowledge
  repeat' split
  · exact ((moved _).trans (sameDevice_evalRelays _)).trans (sameDevice_respond _ _ _ _ _)
  · exact {}
  · exact {}

/-- R179 to R181: a reader answers, and does nothing else. -/
theorem sameDevice_serveReaders (s : State) :
    (∀ fields, SameDevice s (serveTableRead fields s)) ∧ (∀ fields, SameDevice s (serveStatus fields s)) ∧
      (∀ fields, SameDevice s (serveReadChannels fields s)) ∧
      (∀ fields, SameDevice s (serveReadZone fields s)) ∧
      (∀ fields, SameDevice s (serveReadFan fields s)) := by
  unfold serveTableRead serveStatus serveReadChannels serveReadZone serveReadFan
  refine ⟨?_, ?_, ?_, ?_, ?_⟩
  all_goals
    intro fields
    repeat' split
    all_goals exact {}

theorem sameDevice_serveRestart (fields : List Byte) (s : State) : SameDevice s (serveRestart fields s) := by
  have aborted : SameDevice s (abortActivation s) := by
    unfold abortActivation
    split
    · exact {}
    · exact { swap := by simp [respondOwn, respond, buildResponse] }
  unfold serveRestart
  split
  · exact aborted.trans {}
  · exact {}

theorem sameDevice_serveRequest (payload : List Byte) (s : State) : SameDevice s (serveRequest payload s) := by
  obtain ⟨tableRead, status, readChannels, readZone, readFan⟩ := sameDevice_serveReaders s
  unfold serveRequest
  repeat' split
  · exact {}
  · exact sameDevice_serveTableWrite _ s
  · exact tableRead _
  · exact sameDevice_serveActivate _ s
  · exact sameDevice_serveAcknowledge _ s
  · exact status _
  · exact readChannels _
  · exact readZone _
  · exact readFan _
  · exact sameDevice_serveRestart _ s
  · exact {}

theorem sameDevice_setFan (f : Fin 16) (r : FanRec) (s : State) : SameDevice s (setFan f r s) :=
  sameDevice_of_fans

theorem sameDevice_screenCandidate (node : Byte) (kind : RelayKind) (payload : List Byte) (s : State) :
    SameDevice s (screenCandidate node kind payload s) := by
  unfold screenCandidate
  split <;> exact {}

/-- A telegram to a field node changes setpoints and queues alone. -/
theorem sameDevice_dispatchNode (t : Telegram) (s : State) : SameDevice s (dispatchNode t s) := by
  unfold dispatchNode takeDriveSet
  repeat' split
  · exact sameDevice_respond _ _ _ _ s
  · exact (sameDevice_setFan _ _ s).trans (sameDevice_respond _ _ _ _ _)
  · exact sameDevice_respond _ _ _ _ s
  · exact sameDevice_screenCandidate _ _ _ s
  · exact sameDevice_screenCandidate _ _ _ s
  · exact sameDevice_respond _ _ _ _ s

/-- R163: a timer that is started has not expired. -/
theorem silenceStart_ne_expired (seconds : Nat) : silenceStart seconds ≠ .expired := by
  unfold silenceStart
  split <;> simp

/-- R163, R164: an arrival clears SUPERVISOR LOST with the timer that it restarts. -/
theorem deviceCoherent_restartSilence {s : State} (h : s.DeviceCoherent) : (restartSilence s).DeviceCoherent := by
  by_cases d : s.control.device = .unconfigured
  · rw [restartSilence_unconfigured d]; exact h
  have started : s.silenceStarted ≠ .expired := silenceStart_ne_expired _
  rw [restartSilence_configured d]
  split
  · refine State.DeviceCoherent.of_same ?_ (sameDevice_evalRelays _)
    exact { h with
      unconfigured := by rw [handCondition_condition, if_neg (by decide)]; exact h.unconfigured
      purge := by rw [handCondition_condition, if_neg (by decide)]; exact h.purge
      overrun := by rw [handCondition_condition, if_neg (by decide)]; exact h.overrun
      lost := by rw [handCondition_condition, if_pos (by decide), handCondition_north]
      silence := iff_of_false (by simp) started
      quiet := fun c => absurd c d }
  · next held =>
    exact { h with
      silence := iff_of_false held started
      quiet := fun c => absurd c d }

theorem deviceCoherent_receiveNorth (t : Telegram) {s : State} (h : s.DeviceCoherent) :
    (receiveNorth t s).DeviceCoherent := by
  have arrived : s.afterArrival.DeviceCoherent := by
    rw [State.afterArrival]
    exact deviceCoherent_restartSilence (h.of_same (by rw [endReception_north]; exact {}))
  have reserved : (reserveReply s.afterArrival).DeviceCoherent := arrived.of_same {}
  rcases receiveNorth_cases t s with ⟨_, e⟩ | ⟨_, _, e⟩ | ⟨_, _, _, ⟨_, e⟩ | ⟨_, _, e⟩ | ⟨_, _, e⟩⟩ <;>
    rw [e]
  · exact h
  · exact h.of_same {}
  · exact arrived
  · unfold dispatchOwn
    split
    · exact reserved.of_same (sameDevice_serveRequest _ _)
    · exact reserved.of_same {}
  · exact reserved.of_same (sameDevice_dispatchNode _ _)

/-! ### The south loop (R25, R26, R29 to R32, R43) -/

/-- R43: an unclassified reply hands over UNCLASSIFIED, which the device state does not fix. -/
theorem sameDevice_takeUnclassified (s : State) : SameDevice s (takeUnclassified s) := by
  have source : ∀ i : Fin 77, i.val ≤ 75 → (takeUnclassified s).alarm.sources[i] = s.alarm.sources[i] :=
    fun i high => by rw [takeUnclassified_source, if_neg (by omega)]
  rw [takeUnclassified_frame]
  exact { conditions := fun i _ high => congrArg SourceRec.condition (source i high) }

theorem sameDevice_takeReadingFrom (node status : Byte) (raw : Nat) (s : State) :
    SameDevice s (takeReadingFrom node status raw s) := by
  unfold takeReadingFrom
  split
  · rw [takeReading_frame]; exact {}
  · exact sameDevice_takeUnclassified s

theorem sameDevice_takeDriveStatusFrom (node : Byte) (st : DriveReply) (s : State) :
    SameDevice s (takeDriveStatusFrom node st s) := by
  unfold takeDriveStatusFrom
  split
  · rw [takeDriveStatus_frame]; exact {}
  · exact sameDevice_takeUnclassified s

theorem sameDevice_takeAnswer (tr : Transaction) (payload : List Byte) (s : State) :
    SameDevice s (takeAnswer tr payload s) := by
  unfold takeAnswer
  split <;> exact {}

theorem sameDevice_deliverMiss (tr : Transaction) (s : State) : SameDevice s (deliverMiss tr s) := by
  unfold deliverMiss
  repeat' split
  · rw [takeChannelMiss_frame]; exact {}
  · exact {}
  · rw [takeFanMiss_frame]; exact {}
  · exact {}
  · rw [takeFanMiss_frame]; exact {}
  · exact {}
  · exact {}
  · exact {}

/-- A reply leaves what the invariant reads if what it is handed to does. -/
theorem sameDevice_receiveSouth (t : Telegram) {take : Transaction → State → State} (s : State)
    (leaves : ∀ tr u, SameDevice u (take tr u)) : SameDevice s (receiveSouth t take s) := by
  rcases receiveSouth_cases t take s with ⟨_, e⟩ | ⟨_, _, tr, _, _, e⟩ | ⟨_, _, e⟩ <;> rw [e]
  · exact {}
  · exact SameDevice.trans {} (leaves tr s.afterReply)
  · exact {}

theorem sameDevice_clearStrayFlags (s : State) : SameDevice s (clearStrayFlags s) := sameDevice_of_fans

theorem sameDevice_openTransaction (t : Telegram) (purpose : Purpose) (windowMs : Nat) (s : State) :
    SameDevice s (openTransaction t purpose windowMs s) := {}

theorem sameDevice_openFanDrive (f : Fin 16) (s : State) : SameDevice s (openFanDrive f s) :=
  (sameDevice_setFan f _ s).trans (sameDevice_openTransaction _ _ _ _)

theorem sameDevice_openRelay (e : RelayEntry) (s : State) : SameDevice s (openRelay e s) :=
  SameDevice.trans {} (sameDevice_openTransaction _ _ _ _)

theorem sameDevice_openScan (i : Nat) (s : State) : SameDevice s (openScan i s) :=
  SameDevice.trans {} (sameDevice_openTransaction _ _ _ _)

/-! ### The cycle, the purge and the swap (R20, R21, R123, R134, R166, R187) -/

theorem sameDevice_cycleStart (s : State) : SameDevice s (cycleStart s) := {}

/-- R21, R134: SCAN OVERRUN holds from an expiry in an open cycle on. -/
theorem deviceCoherent_setOverrun {s : State} (h : s.DeviceCoherent) : (setOverrun s).DeviceCoherent := by
  refine State.DeviceCoherent.of_same ?_ (sameDevice_evalRelays _)
  exact { h with
    unconfigured := by rw [handCondition_condition, if_neg (by decide)]; exact h.unconfigured
    purge := by rw [handCondition_condition, if_neg (by decide)]; exact h.purge
    overrun := by rw [handCondition_condition, if_pos (by decide), handCondition_scan]
    lost := by rw [handCondition_condition, if_neg (by decide)]; exact h.lost }

theorem deviceCoherent_timerExpiry {s : State} (h : s.DeviceCoherent) : (timerExpiry s).DeviceCoherent := by
  unfold timerExpiry
  repeat' split
  · exact deviceCoherent_setOverrun h
  · exact h.of_same (sameDevice_cycleStart s)
  · exact h

/-- R21, R112: the work of a close evaluates the interlock, and clears the overrun with its condition. -/
theorem deviceCoherent_closeWork {s : State} (h : s.DeviceCoherent) : (closeWork s).DeviceCoherent := by
  have source : ∀ i : Fin 77, 72 ≤ i.val → i.val ≤ 75 → (closeWork s).alarm.sources[i] =
      if i.val = 74 ∧ closeIsLate s = false then SourceRec.handed (s.policy.cls i) false s.alarm.sources[i]
      else s.alarm.sources[i] := fun i low high => by
    rw [closeWork_source, if_neg (by omega)]
    simp only [show i.val ≠ 76 by omega, false_and, or_false]
  have other : ∀ i : Fin 77, 72 ≤ i.val → i.val ≤ 75 → i.val ≠ 74 →
      (closeWork s).alarm.sources[i] = s.alarm.sources[i] := fun i low high ne => by
    rw [source i low high, if_neg fun c => ne c.1]
  have control : (closeWork s).control = s.control := by rw [closeWork_frame]
  have held : (closeWork s).held = s.held := by rw [State.held, State.held, closeWork_frame]
  refine {
    bank := by rw [control, closeWork_banks]; exact h.bank
    ready := by rw [control]; exact h.ready
    purgeTimer := by rw [control]; exact h.purgeTimer
    inhibit := fun d => ?_
    swap := by rw [closeWork_banks]; exact h.swap
    unconfigured := by
      rw [other 72 (by decide) (by decide) (by decide), held, control]; exact h.unconfigured
    purge := by rw [other 73 (by decide) (by decide) (by decide), control]; exact h.purge
    overrun := ?_
    lost := by rw [other 75 (by decide) (by decide) (by decide), closeWork_north]; exact h.lost
    silence := by rw [closeWork_north]; exact h.silence
    quiet := by rw [control, closeWork_north]; exact h.quiet }
  · rw [control] at d
    simp [closeWork_alloc, interlockOf, d]
  · rw [source 74 (by decide) (by decide), closeWork_scan]
    by_cases late : closeIsLate s = false
    · rw [if_pos ⟨rfl, late⟩, SourceRec.handed_condition, late, Bool.and_false]
    · rw [if_neg fun c => late c.2, Bool.eq_true_of_not_eq_false late, Bool.and_true]
      exact h.overrun

/-- R166: a swap makes no timer expire, and leaves one that has expired. -/
theorem silenceAtSwap_expired_iff (old new : Nat) (t : SilenceTimer) :
    silenceAtSwap old new t = .expired ↔ t = .expired := by
  unfold silenceAtSwap
  split
  · rfl
  · cases t with
    | running n => simp only; split <;> simp
    | stopped => exact iff_of_false (silenceStart_ne_expired new) (by simp)
    | expired => rfl

/-- R187: a swap at a close, which falls in PURGE or RUN, leaves the device state. -/
theorem deviceCoherent_swapAtClose {s : State} (h : s.DeviceCoherent)
    (configured : s.control.device ≠ .unconfigured) : (swapAtClose s).DeviceCoherent := by
  have lost : (swapAtClose s).north.supervisorLost = s.north.supervisorLost := by
    simp [swapAtClose, finishSwap_north]
  have silence : (swapAtClose s).north.silence = .expired ↔ s.north.silence = .expired := by
    rw [swapAtClose_north s rfl]
    exact silenceAtSwap_expired_iff _ _ _
  have control : (swapAtClose s).control = s.control := by rw [swapAtClose_frame]
  have hold : (swapAtClose s).hold = s.hold := by rw [swapAtClose_frame]
  have inhibit : (swapAtClose s).alloc.inhibit = s.alloc.inhibit := by rw [swapAtClose_frame]
  have overrun : (swapAtClose s).scan.overrun = s.scan.overrun := by rw [swapAtClose_frame]
  have sources : (swapAtClose s).alarm.sources = s.alarm.sources := by rw [swapAtClose_frame]
  exact {
    bank := by rw [control, swapAtClose_frame]; exact iff_of_false configured (by simp)
    ready := by rw [control]; exact h.ready
    purgeTimer := by rw [control]; exact h.purgeTimer
    inhibit := by rw [control, inhibit]; exact h.inhibit
    swap := by rw [swapAtClose_frame]; simp
    unconfigured := by rw [State.held, hold, sources, control]; exact h.unconfigured
    purge := by rw [sources, control]; exact h.purge
    overrun := by rw [sources, overrun]; exact h.overrun
    lost := by rw [sources, lost]; exact h.lost
    silence := by rw [silence, lost]; exact h.silence
    quiet := fun c => absurd (control ▸ c) configured }

/-- R119, R123: the end of a purge is an entry into RUN. -/
theorem deviceCoherent_purgeExpiry {s : State} (h : s.DeviceCoherent) (purge : s.control.device = .purge) :
    (purgeExpiry s).DeviceCoherent := by
  have cleared : ∀ i : Fin 77, i.val = 72 ∨ i.val = 73 →
      (purgeExpiry s).alarm.sources[i].condition = false := fun i is => by
    rw [purgeExpiry_source, if_pos is, SourceRec.handed_condition]
  have other : ∀ i : Fin 77, i.val ≠ 72 → i.val ≠ 73 →
      (purgeExpiry s).alarm.sources[i] = s.alarm.sources[i] := fun i first second => by
    rw [purgeExpiry_source, if_neg (by omega)]
  have active : s.banks.active ≠ none := fun none_ => by
    rw [h.bank.2 none_] at purge
    cases purge
  have c72 := cleared 72 (.inl rfl)
  have c73 := cleared 73 (.inr rfl)
  have c74 := other 74 (by decide) (by decide)
  have c75 := other 75 (by decide) (by decide)
  rw [purgeExpiry_frame] at c72 c73 c74 c75 ⊢
  exact { h with
    bank := iff_of_false (by simp) active
    ready := iff_of_true rfl rfl
    purgeTimer := iff_of_false (by simp) (by simp)
    inhibit := fun c => absurd rfl c
    unconfigured := fun _ => by rw [c72]; simp
    purge := by rw [c73]; simp
    overrun := by rw [c74]; exact h.overrun
    lost := by rw [c75]; exact h.lost
    quiet := by simp }

/-- R20, R21, R121, R187: the parts of a close, one after the other. -/
theorem deviceCoherent_closeCycle {s : State} (h : s.DeviceCoherent)
    (configured : s.control.device ≠ .unconfigured) : (closeCycle s).DeviceCoherent := by
  have swapped : (closeSwap (closeWork s)).DeviceCoherent := by
    rcases closeSwap_cases (closeWork s) with ⟨_, e⟩ | ⟨_, e⟩ <;> rw [e]
    · exact deviceCoherent_swapAtClose (deviceCoherent_closeWork h) (by rw [closeWork_frame]; exact configured)
    · exact deviceCoherent_closeWork h
  have purged : (closePurge (closeSwap (closeWork s))).DeviceCoherent := by
    rcases closePurge_cases (closeSwap (closeWork s)) with ⟨purge, _, e⟩ | ⟨_, e⟩ <;> rw [e]
    · exact deviceCoherent_purgeExpiry swapped purge
    · exact swapped
  simp only [closeCycle]
  split
  · exact purged.of_same (sameDevice_cycleStart _)
  · exact purged

/-! ### Supervisor silence (R105, R135, R165) -/

/-- R135, R165: SUPERVISOR LOST holds from the expiry on. A timer that runs is one of a configured part. -/
theorem deviceCoherent_silenceExpiry {s : State} (h : s.DeviceCoherent) : (silenceExpiry s).DeviceCoherent := by
  rcases silenceExpiry_cases s with ⟨n, runs, e⟩ | ⟨_, e⟩ <;> rw [e]
  · have configured : s.control.device ≠ .unconfigured := fun d => by
      rw [h.quiet d] at runs
      cases runs
    refine State.DeviceCoherent.of_same ?_ (sameDevice_evalRelays _)
    exact { h with
      unconfigured := by rw [handCondition_condition, if_neg (by decide)]; exact h.unconfigured
      purge := by rw [handCondition_condition, if_neg (by decide)]; exact h.purge
      overrun := by rw [handCondition_condition, if_neg (by decide)]; exact h.overrun
      lost := by
        rw [handCondition_condition, if_pos (by decide), handCondition_north, dropSupervisorWork_north]
      silence := iff_of_true rfl rfl
      quiet := fun c => absurd c configured }
  · exact h

/-! ### Activation and resets (R119, R126, R127, R152, R153, R186) -/

/-- R119, R163, R186: out of UNCONFIGURED, where no silence timer runs, the part enters PURGE. -/
theorem deviceCoherent_firstActivation {s : State} (h : s.DeviceCoherent)
    (unconfigured : s.control.device = .unconfigured) : (firstActivation s).DeviceCoherent := by
  have entered : (firstActivation s).control =
      { device := .purge, purgeTimer := some s.firstActivated.site.purgeTime, ready := false } := by
    rw [firstActivation_eq, evalRelays_control, (enterPurge_fields _).1]
  have banks : (firstActivation s).banks = { s.banks with active := some s.banks.standbyId, state := .idle } := by
    rw [← firstActivated_banks]
    simp [firstActivation_eq, enterPurge]
  have silence : (firstActivation s).north.silence ≠ .expired := by
    simpa [firstActivation_eq, enterPurge] using silenceStart_ne_expired _
  have lost : (firstActivation s).north.supervisorLost = s.north.supervisorLost := by
    simp [firstActivation_eq, enterPurge, State.firstActivated, finishSwap_north]
  have present : s.north.supervisorLost = false := by
    rw [← Bool.not_eq_true, h.silence, h.quiet unconfigured]
    simp
  have overrun : (firstActivation s).scan.overrun = s.scan.overrun := by
    simp [firstActivation_eq, enterPurge, State.firstActivated]
  exact {
    bank := by rw [entered, banks]; simp
    ready := by rw [entered]; simp
    purgeTimer := by rw [entered]; simp
    inhibit := fun _ => by simp [firstActivation_eq, enterPurge, interlockOf]
    swap := by rw [banks]; simp
    unconfigured := fun _ => by
      rw [firstActivation_source, if_pos (by decide), SourceRec.handed_condition, entered]
      simp
    purge := by
      rw [firstActivation_source, if_neg (by decide), if_pos (by decide), SourceRec.handed_condition, entered]
      simp
    overrun := by
      rw [firstActivation_source, if_neg (by decide), if_neg (by decide), overrun]; exact h.overrun
    lost := by rw [firstActivation_source, if_neg (by decide), if_neg (by decide), lost]; exact h.lost
    silence := iff_of_false (by simp [lost, present]) silence
    quiet := by rw [entered]; simp }

theorem deviceCoherent_checkEndStep {s : State} (h : s.DeviceCoherent) : (checkEndStep s).DeviceCoherent := by
  have failed : ∀ result payload, (failActivation result payload s).DeviceCoherent := fun _ _ =>
    h.of_same { swap := by simp [failActivation, respondOwn, respond, buildResponse] }
  unfold checkEndStep checkEnd
  repeat' split
  · exact failed _ _
  · exact failed _ _
  · next d => exact deviceCoherent_firstActivation h d
  · next configured => exact { h with swap := fun _ none_ => configured (h.bank.2 none_) }
  · exact h

/-- R126, R127, R152, R153: a warm reset enters PURGE with a bank active, and UNCONFIGURED with none. -/
theorem deviceCoherent_warmReset (s : State) : (warmReset s).DeviceCoherent := by
  obtain ⟨_, _, _, _, _, banks, north⟩ := warmReset_blocks s
  have condition : ∀ i : Fin 77, (warmReset s).alarm.sources[i].condition = true ↔
      i.val = if s.banks.active = none then 72 else 73 := fun i => by
    rw [warmReset_source]
    by_cases is : i.val = if s.banks.active = none then 72 else 73 <;> simp [is]
  have overrun : (warmReset s).scan.overrun = false := by
    unfold warmReset
    cases s.banks.active <;> simp [enterPurge, warmBlocks, State.reset, ScanEngine.initial]
  have lost : (warmReset s).north.supervisorLost = false := by rw [north]; rfl
  have device : (warmReset s).control.device = if s.banks.active = none then .unconfigured else .purge := by
    unfold warmReset
    cases s.banks.active <;> simp [enterPurge]
  have control : (warmReset s).control.ready = false ∧
      ((warmReset s).control.purgeTimer.isSome = true ↔ s.banks.active ≠ none) := by
    unfold warmReset
    cases s.banks.active <;> simp [enterPurge, warmBlocks, State.reset, Control.initial]
  have silence : (warmReset s).north.silence ≠ .expired ∧
      (s.banks.active = none → (warmReset s).north.silence = .stopped) := by
    by_cases active : s.banks.active = none
    · rw [warmReset_of_none active]
      simp [warmBlocks, State.reset, NorthLink.initial]
    · obtain ⟨_, _, _, started⟩ := warmReset_starts active
      rw [started]
      exact ⟨silenceStart_ne_expired _, fun c => absurd c active⟩
  refine {
    bank := by rw [device, banks]; split <;> simp [*]
    ready := iff_of_false (by simp [control.1]) (by rw [device]; split <;> simp)
    purgeTimer := control.2.trans (by rw [device]; split <;> simp [*])
    inhibit := fun _ => warmReset_inhibit s
    swap := by rw [banks]; simp
    unconfigured := fun _ => (condition 72).trans (by rw [device]; split <;> simp [*])
    purge := (condition 73).trans (by rw [device]; split <;> simp [*])
    overrun := (condition 74).trans (by rw [overrun]; split <;> simp [*])
    lost := (condition 75).trans (by rw [lost]; split <;> simp [*])
    silence := iff_of_false (by simp [lost]) silence.1
    quiet := fun d => silence.2 (by_contra fun active => by simp [device, active] at d) }

/-- R126, R197: a part that is held stands at its cold-reset values, every condition clear. -/
theorem deviceCoherent_resetHold {h : Hold} (held : h.any = true) (s : State) : (resetHold h s).DeviceCoherent := by
  have clear : ∀ i : Fin 77, (resetHold h s).alarm.sources[i].condition = false := fun i => by
    simp [resetHold, AlarmUnit.initial, SourceRec.initial]
  exact { reset_deviceCoherent with
    unconfigured := fun free => by rw [show (resetHold h s).held = h.any from rfl, held] at free; cases free
    purge := iff_of_false (by rw [clear]; simp) (by simp [resetHold, State.reset, Control.initial])
    overrun := iff_of_false (by rw [clear]; simp) (by simp [resetHold, State.reset, ScanEngine.initial])
    lost := iff_of_false (by rw [clear]; simp) (by simp [resetHold, State.reset, NorthLink.initial]) }

theorem deviceCoherent_releaseHold (release : Release) {s : State} (h : s.DeviceCoherent) :
    (releaseHold release s).DeviceCoherent := by
  rcases releaseHold_cases release s with ⟨_, e⟩ | ⟨_, holds, e⟩ | ⟨_, _, e⟩ <;> rw [e]
  · exact h
  · exact { h with
      unconfigured := fun free => by rw [State.held, holds] at free; cases free }
  · exact { reset_deviceCoherent with }

/-! ### All commands -/

theorem effect_keeps_deviceCoherent (c : Instr) {s : State} (h : s.DeviceCoherent) :
    (effect c s).DeviceCoherent := by
  cases c with
  | coldReset r => exact deviceCoherent_releaseHold r h
  | resetHold k =>
    simp only [effect]
    split
    · exact deviceCoherent_resetHold (by cases k <;> simp [Hold.joined, Hold.any]) s
    · exact h
  | warmReset =>
    simp only [effect]
    split
    · exact deviceCoherent_warmReset s
    · exact h
  | tableWrite | tableRead | activate | acknowledge | status | readChannels | readZone | readFan | restart
  | driveSet | command | dispatchBadRequest | unknownRequest => exact deviceCoherent_receiveNorth _ h
  | reading => exact h.of_same (sameDevice_receiveSouth _ s fun _ u => sameDevice_takeReadingFrom _ _ _ u)
  | driveStatus => exact h.of_same (sameDevice_receiveSouth _ s fun _ u => sameDevice_takeDriveStatusFrom _ _ u)
  | answer => exact h.of_same (sameDevice_receiveSouth _ s fun tr u => sameDevice_takeAnswer tr _ u)
  | replyWindowExpiry receiving =>
    rcases windowExpiry_cases receiving s with ⟨tr, _, _, e⟩ | ⟨_, e⟩ <;> simp only [effect, e]
    · exact h.of_same (SameDevice.trans {} (sameDevice_deliverMiss tr _))
    · exact h
  | localConversionComplete sample =>
    rcases conversionStep_cases sample s with ⟨i, rest, _, e⟩ | ⟨_, e⟩ <;> simp only [effect, e]
    · rw [takeReading_frame]; exact h.of_same {}
    · exact h
  | cycleTimerExpiry => exact deviceCoherent_timerExpiry h
  | cycleClose =>
    simp only [effect]
    split
    · next due =>
      simp only [closeDue, Bool.and_eq_true, bne_iff_ne] at due
      obtain ⟨⟨⟨⟨configured, _⟩, _⟩, _⟩, _⟩ := due
      exact deviceCoherent_closeCycle h configured
    · exact h
  | fanDrive =>
    rcases fanDriveStep_cases s with ⟨_, f, _, e⟩ | ⟨_, _, e⟩ | ⟨_, e⟩ <;> simp only [effect, e]
    · exact h.of_same ((sameDevice_clearStrayFlags s).trans (sameDevice_openFanDrive f _))
    · exact h.of_same (sameDevice_clearStrayFlags s)
    · exact h
  | relayTransaction =>
    rcases relayStep_cases s with ⟨_, entry, _, e⟩ | ⟨_, e⟩ <;> simp only [effect, e]
    · exact h.of_same ((sameDevice_clearStrayFlags s).trans (sameDevice_openRelay entry _))
    · exact h
  | scanTransaction =>
    rcases scanStep_cases s with ⟨_, i, _, e⟩ | ⟨_, e⟩ <;> simp only [effect, e]
    · exact h.of_same ((sameDevice_clearStrayFlags s).trans (sameDevice_openScan i _))
    · exact h
  | southRateChange =>
    rcases southRateStep_cases s with ⟨_, _, _, e⟩ | ⟨_, e⟩ <;> simp only [effect, e]
    · exact h.of_same {}
    · exact h
  | northChoice =>
    have condition : ∀ i : Fin 77, (northChoiceStep s).alarm.sources[i].condition =
        s.alarm.sources[i].condition := fun i => by
      rcases northChoiceStep_cases s with ⟨_, c, _, e⟩ | ⟨_, e⟩ <;> rw [e]
      exact serveClass_condition c (updateCredits c s) i
    simp only [effect]
    rw [northChoiceStep_frame]
    exact h.of_same { conditions := fun i _ _ => condition i }
  | northTransmissionEnd receiving =>
    simp only [effect]
    rw [northSent_frame]
    exact h.of_same {}
  | activationCheckEnd => exact deviceCoherent_checkEndStep h
  | purgeTimerExpiry =>
    rcases purgeTimerStep_cases s with ⟨purge, _, e⟩ | e <;> simp only [effect, e]
    · exact deviceCoherent_purgeExpiry h purge
    · exact h
  | supervisorSilenceExpiry => exact deviceCoherent_silenceExpiry h
  | tachPulse | pwmPeriodEnd => exact h.of_same sameDevice_of_pwm
  | lineIdle line => simp only [effect]; rw [idleStep_frame]; exact h.of_same {}
  | telegramAbandoned line cause =>
    rcases abandonStep_cases line cause s with ⟨_, e⟩ | ⟨_, e⟩ <;> simp only [effect, e]
    · rw [endReception_frame]; exact h.of_same {}
    · exact h
  | discardedTelegram line chars =>
    rcases discardStep_cases line chars s with ⟨_, _, e⟩ | ⟨_, e⟩ <;> simp only [effect, e]
    · rw [endReception_frame]; exact h.of_same {}
    · exact h
  | southTransmissionEnd =>
    rcases southSent_cases s with ⟨_, e⟩ | ⟨_, e⟩ <;> simp only [effect, e]
    · exact h.of_same {}
    · exact h

/-- Settles O10, by the case split over the commands in `effect_keeps_deviceCoherent`. -/
theorem stepKeepsDeviceCoherent : Obligations.StepKeepsDeviceCoherent :=
  step_keeps (fun _ _ h => { h with }) fun c _ _ h => effect_keeps_deviceCoherent c h

end Sys2Proof.Machine
end

section
/-! Absorbed setpoints, the expiry of supervisor silence, tach pulses and PWM periods. Settles
DriveSetIsAbsorbed, SilenceExpiryDropsSupervisorWork and PulsesAndPeriodsTakeEffect. -/

namespace Sys2Proof.Machine

/-! ### Commanded duties (R103 to R105, R108) -/

/-- R103, R108: in RUN the greater of allocation and setpoint, full duty otherwise. -/
theorem commandedDuty_eq (device : DeviceState) (r : FanRec) :
    commandedDuty device r = if device = .run then max r.allocated (r.manual.getD 0) else 100 := by
  cases device <;> rfl

/-- R104: the record that an absorbed DRIVE SET leaves. -/
theorem absorb_eq (device : DeviceState) (speed : Nat) (r : FanRec) :
    r.absorb device speed =
      { r with
        manual := if speed = 255 then none else some speed
        commanded :=
          if device = .run then if speed = 255 then r.allocated else max r.allocated speed else 100
        flag := true } := by
  unfold FanRec.absorb FanRec.recommand
  rw [commandedDuty_eq]
  by_cases release : speed = 255 <;> simp [release]

/-- R105: the record that a fan keeps at the expiry of supervisor silence. -/
theorem dropManual_eq (device : DeviceState) (r : FanRec) :
    r.dropManual device =
      if r.manual = none then r
      else { r with
        manual := none, commanded := if device = .run then r.allocated else 100, flag := true } := by
  unfold FanRec.dropManual FanRec.recommand
  rw [commandedDuty_eq]
  cases r.manual <;> simp

/-! ### Absorbed DRIVE SETs (R104, R168) -/

/-- R168: a released setpoint is DONE, and so is one that is not below the allocation. -/
theorem absorbResult_eq (speed allocated : Nat) :
    absorbResult speed allocated = if speed = 255 ∨ allocated ≤ speed then .done else .clamped := by
  unfold absorbResult
  by_cases release : speed = 255 <;> simp [release]

/-- R168: a DRIVE SET to the node of an enabled REMOTE fan is absorbed. -/
theorem takeDriveSet_absorbs {s : State} {node speed : Byte} {f : Fin 16}
    (legal : speed.toNat ≤ 100 ∨ speed.toNat = 255) (fan : remoteFanOf s.tables node = some f) :
    takeDriveSet node speed s = absorbDriveSet f node speed s := by
  rw [takeDriveSet, if_neg (by omega), fan]

/-- Settles O30: the telegram is dispatched to its fan, and the answer judged by the allocation it finds. -/
theorem driveSetIsAbsorbed : Obligations.DriveSetIsAbsorbed := by
  intro s node speed f open_ free low high other legal fan
  have taken : exec (.driveSet node speed) s =
      live (receiveNorth { dest := node, source := 0#8, kind := .driveSet, payload := [speed] }) s := rfl
  have tables : (reserveReply s.afterArrival).tables = s.tables := by
    rw [reserveReply_tables, afterArrival_tables]
  have arrived : s.afterArrival.alloc = s.alloc := by rw [afterArrival_frame]
  have control : (reserveReply s.afterArrival).control = s.control := by
    rw [reserveReply_control, afterArrival_frame]
  rw [taken, live_of_running _ open_.1,
    receiveNorth_node open_.2 rfl (nodeTelegram_traffic _ rfl ⟨low, high⟩) free other]
  refine congrArg _ ((takeDriveSet_absorbs legal (by rw [tables]; exact fan)).trans ?_)
  rw [absorbDriveSet, reserveReply_alloc, arrived, control, absorb_eq, absorbResult_eq, respond_frame]
  ext1 <;> simp [State.answered, setFan, arrived, kindCode]

/-! ### Supervisor silence (R105, R135, R165) -/

/-- Settles O55: the timer runs, so the supervisor's work is dropped and the relays evaluated. -/
theorem silenceExpiryDropsSupervisorWork : Obligations.SilenceExpiryDropsSupervisorWork := by
  intro s n held runs
  obtain ⟨t, after⟩ : ∃ t, t = evalRelays (handCondition sourceSupervisorLost true (dropSupervisorWork s)) :=
    ⟨_, rfl⟩
  have taken : exec .supervisorSilenceExpiry s = .next t := by
    rw [exec_of_running _ held, after]
    simp only [effect, silenceExpiry, runs]
  refine ⟨t, taken, ?_, fun f => ?_, fun i => ?_, ?_⟩
  · rw [after]
    ext1 <;> simp [confirmedCount, List.countP_eq_length_filter, dropSupervisorWork]
  · rw [after, ← dropManual_eq]
    simp [dropSupervisorWork]
  · rw [after, evalRelays_sources, handCondition_source_val]
    rfl
  · rw [after]
    exact evalRelays_follow _

/-! ### Tach pulses and PWM periods (R98, R107) -/

/-- R107: with an empty slot the running pair runs on. -/
theorem periodEnd_of_empty {s : State} {k : Fin 4} (empty : s.pwm.outputs[k].next = none) :
    periodEnd k s = s := by
  have output : s.pwm.outputs[k].periodEnd = s.pwm.outputs[k] := by rw [PwmOutput.periodEnd, empty]
  have outputs : s.pwm.outputs.set k s.pwm.outputs[k] = s.pwm.outputs := Vector.set_getElem_self k.isLt
  rw [periodEnd, output, outputs]

/-- Settles O58, by whether the count stands at its limit and by what waits in the slot. -/
theorem pulsesAndPeriodsTakeEffect : Obligations.PulsesAndPeriodsTakeEffect := by
  intro s k held
  refine ⟨fun bound => ?_, fun p waits => ?_, fun empty => ?_⟩
  · have count : min (s.pwm.tach[k] + 1) 65535 = if s.pwm.tach[k] = 65535 then 65535 else s.pwm.tach[k] + 1 := by
      split <;> omega
    rw [exec_of_running _ held, effect, countPulse, count]
  · have output : s.pwm.outputs[k].periodEnd = { running := p, next := none } := by
      rw [PwmOutput.periodEnd, waits]
    rw [exec_of_running _ held, effect, periodEnd, output]
  · rw [exec_of_running _ held, effect, periodEnd_of_empty empty]

end Sys2Proof.Machine
end

section
/-! The Allocator's stages at a close. Settles CloseWorksTheFans. -/

namespace Sys2Proof.Machine

/-! ### Stage by stage (R96, R98 to R103, R108, R110) -/

/-- R98: the count that is handed to a fan is that of its output, and 0 for an output there is not. -/
theorem tachOf_eq (tach : Vector Nat 4) (output : Nat) : tachOf tach output = (tach[output]?).getD 0 := by
  unfold tachOf
  split
  · next inside => rw [Vector.getElem?_eq_getElem inside, Option.getD_some]
  · next outside => rw [Vector.getElem?_eq_none (Nat.le_of_not_lt outside), Option.getD_none]

/-- R96: a tach count is kept, and judged where the fan was commanded to run; nothing else changes. -/
theorem takeTach_eq (e : FanEntry) (count : Nat) (r : FanRec) :
    r.takeTach e count =
      { r with
        lastTach := count
        health := if r.commanded = 0 then r.health else
          if count < e.tachMin then (r.afterBad e).health else (r.afterGood e).health
        failCount := if r.commanded = 0 then r.failCount else
          if count < e.tachMin then (r.afterBad e).failCount else (r.afterGood e).failCount
        goodCount := if r.commanded = 0 then r.goodCount else
          if count < e.tachMin then (r.afterBad e).goodCount else (r.afterGood e).goodCount } := by
  simp only [FanRec.takeTach, takeBad_eq_afterBad, takeGood_eq_afterGood]
  by_cases stopped : r.commanded = 0
  · simp only [stopped, if_true]
  · by_cases slow : count < e.tachMin
    · simp only [stopped, slow, if_true, if_false]; rfl
    · simp only [stopped, slow, if_false]; rfl

theorem sampleLocalFans_fan (s : State) (f : Fin 16) :
    (sampleLocalFans s).alloc.fans[f] =
      if (fanOf s.tables f).enabledLocal = true then
        s.alloc.fans[f].takeTach (fanOf s.tables f) (tachOf s.pwm.tach (fanOf s.tables f).output)
      else s.alloc.fans[f] := by
  rw [sampleLocalFans, clearTach_alloc, fin_getElem_mapFin]

/-- R101: an allocation writes the allocated duty of the enabled fans. -/
theorem allocateZones_fan (s : State) (f : Fin 16) :
    (allocateZones s).alloc.fans[f] =
      if (fanOf s.tables f).enable = true then
        { s.alloc.fans[f] with allocated := (allocateZones s).alloc.fans[f].allocated }
      else s.alloc.fans[f] := by
  simp only [allocateZones, fin_getElem_mapFin]
  split
  · split <;> rfl
  · rfl

theorem allocateZones_allocated {s : State} {f : Fin 16} {z : Fin 8}
    (enabled : (fanOf s.tables f).enable = true) (zone : (fanOf s.tables f).zone = z.val)
    (served : (zoneOf s.tables z).enable = true) :
    (allocateZones s).alloc.fans[f].allocated = (allocateZone s.tables s.alloc.fans z s.zones[z]).1 := by
  have allocation : zoneAllocation s z.val = some (allocateZone s.tables s.alloc.fans z s.zones[z]) := by
    rw [zoneAllocation, dif_pos z.isLt, if_pos served]
    rfl
  simp only [allocateZones, fin_getElem_mapFin, enabled, if_true, zone, allocation]

theorem commandFans_fan (s : State) (f : Fin 16) :
    (commandFans s).alloc.fans[f] =
      if (fanOf s.tables f).enable = true then s.alloc.fans[f].recommand s.control.device
      else s.alloc.fans[f] := by
  rw [commandFans, writeOutputs_alloc, fin_getElem_mapFin]

theorem workFlags_fan (s : State) (f : Fin 16) :
    (workFlags s).alloc.fans[f] =
      if (fanOf s.tables f).enabledRemote = true then s.alloc.fans[f].workFlag (fanOf s.tables f)
      else s.alloc.fans[f] := by
  rw [workFlags, fin_getElem_mapFin]

/-- R101: the duty that an allocation gives. -/
theorem allocate_duty (blind : Bool) (effective : Band) (qReq minDuty qAvail : Nat) :
    (allocate blind effective qReq minDuty qAvail).1 =
      if blind = true ∨ effective = .danger ∨ qAvail = 0 then 100
      else if 100 < (qReq * 100 + qAvail - 1) / qAvail then 100
      else max ((qReq * 100 + qAvail - 1) / qAvail) minDuty := by
  simp only [allocate, ← or_assoc]
  by_cases whole : blind = true ∨ effective = .danger
  · simp only [whole, if_true, true_or]
  · by_cases dry : qAvail = 0
    · simp only [whole, dry, if_false, if_true, or_true]
    · simp only [whole, dry, if_false, or_self]
      split <;> rfl

/-- R101: the shortfall that an allocation finds. -/
theorem allocate_shortfall (blind : Bool) (effective : Band) (qReq minDuty qAvail : Nat) :
    (allocate blind effective qReq minDuty qAvail).2 = true ↔
      qAvail = 0 ∨ (blind = false ∧ effective ≠ .danger ∧ 100 < (qReq * 100 + qAvail - 1) / qAvail) := by
  simp only [allocate]
  by_cases whole : blind = true ∨ effective = .danger
  · have never : ¬ (blind = false ∧ effective ≠ .danger ∧ 100 < (qReq * 100 + qAvail - 1) / qAvail) :=
      fun ⟨seeing, safe, _⟩ => whole.elim (by simp [seeing]) safe
    simp only [whole, if_true, decide_eq_true_eq, never, or_false]
  · obtain ⟨seeing, safe⟩ := not_or.1 whole
    rw [Bool.not_eq_true] at seeing
    by_cases dry : qAvail = 0
    · simp [whole, dry]
    · by_cases short : 100 < (qReq * 100 + qAvail - 1) / qAvail <;>
        simp [dry, short, seeing, safe]

/-- R100: the airflow of a zone reads the health of the fans alone. -/
theorem availableAirflow_congr {m : Memory} {v w : Vector FanRec 16}
    (health : ∀ f : Fin 16, v[f].health = w[f].health) (zone : Nat) :
    availableAirflow m v zone = availableAirflow m w zone := by
  simp only [availableAirflow, health]

/-- R99 stages 2 to 4 for one enabled fan: its record with an allocated duty, recommanded and, for a REMOTE
fan, flagged. -/
def FanRec.worked (device : DeviceState) (e : FanEntry) (allocated : Nat) (r : FanRec) : FanRec :=
  if e.enabledRemote = true then (FanRec.recommand device { r with allocated }).workFlag e
  else FanRec.recommand device { r with allocated }

theorem worked_of_remote {e : FanEntry} (remote : e.enabledRemote = true) (device : DeviceState)
    (allocated : Nat) (r : FanRec) :
    r.worked device e allocated = (FanRec.recommand device { r with allocated }).workFlag e :=
  if_pos remote

theorem worked_of_local {e : FanEntry} (local_ : e.enabledRemote = false) (device : DeviceState)
    (allocated : Nat) (r : FanRec) :
    r.worked device e allocated = FanRec.recommand device { r with allocated } :=
  if_neg (by simp [local_])

/-- The duties and the flags leave a fan's health. -/
theorem worked_health (device : DeviceState) (e : FanEntry) (allocated : Nat) (r : FanRec) :
    (r.worked device e allocated).health = r.health := by
  unfold FanRec.worked
  split <;> rfl

theorem worked_allocated (device : DeviceState) (e : FanEntry) (allocated : Nat) (r : FanRec) :
    (r.worked device e allocated).allocated = allocated := by
  unfold FanRec.worked
  split <;> rfl

theorem workFlag_commanded (e : FanEntry) (r : FanRec) : (r.workFlag e).commanded = r.commanded := rfl

/-! ### The fans after the work of a close (R99) -/

/-- The part as the Allocator finds it at a close, with the zones evaluated and the LOCAL fans sampled. -/
def State.sampled (s : State) : State := sampleLocalFans (evaluateZones (closeScan s))

theorem sampled_tables (s : State) : s.sampled.tables = s.tables := by
  rw [State.sampled, sampleLocalFans_tables, evaluateZones_tables, closeScan_tables]

theorem sampled_control (s : State) : s.sampled.control = s.control := by
  rw [State.sampled, sampleLocalFans_control, evaluateZones_control, closeScan_frame]

theorem sampled_fan (s : State) (f : Fin 16) :
    s.sampled.alloc.fans[f] =
      if (fanOf s.tables f).enabledLocal = true then
        s.alloc.fans[f].takeTach (fanOf s.tables f) (tachOf s.pwm.tach (fanOf s.tables f).output)
      else s.alloc.fans[f] := by
  rw [State.sampled, sampleLocalFans_fan, evaluateZones_tables, evaluateZones_alloc, evaluateZones_pwm,
    closeScan_tables, closeScan_frame]

/-- R99: the record of a fan after the work of a close, with the duty that its zone allocates. -/
theorem closeWork_fan (s : State) (f : Fin 16) :
    (closeWork s).alloc.fans[f] =
      if (fanOf s.tables f).enable = true then
        s.sampled.alloc.fans[f].worked s.control.device (fanOf s.tables f)
          (allocateZones s.sampled).alloc.fans[f].allocated
      else s.alloc.fans[f] := by
  rw [closeWork_alloc, ← State.sampled, workFlags_fan, commandFans_fan, allocateZones_fan]
  simp only [commandFans_tables, allocateZones_tables, allocateZones_control, sampled_tables, sampled_control]
  by_cases enabled : (fanOf s.tables f).enable = true
  · simp only [enabled, if_true, FanRec.worked]
  · have idle : (fanOf s.tables f).enabledLocal = false ∧ (fanOf s.tables f).enabledRemote = false := by
      simp [FanEntry.enabledLocal, FanEntry.enabledRemote, enabled]
    simp only [enabled, idle, if_false, Bool.false_eq_true, sampled_fan]

theorem closeWork_fan_health (s : State) (f : Fin 16) :
    (closeWork s).alloc.fans[f].health = s.sampled.alloc.fans[f].health := by
  rw [closeWork_fan]
  split
  · exact worked_health _ _ _ _
  · next disabled =>
    rw [sampled_fan, if_neg fun local_ => disabled (enable_of_enabledLocal local_)]

theorem closeWork_airflow (s : State) (z : Nat) :
    availableAirflow s.tables s.sampled.alloc.fans z = (closeWork s).airflow z := by
  rw [availableAirflow_congr fun f => (closeWork_fan_health s f).symm, ← closeWork_tables]
  rfl

/-- R101: an enabled zone's allocation, told by the records that the close leaves. -/
theorem closeWork_allocation {s : State} {z : Fin 8} (served : (zoneOf s.tables z).enable = true) :
    allocateZone s.tables s.sampled.alloc.fans z s.sampled.zones[z] =
        allocate (closeWork s).zones[z].blind (closeWork s).zones[z].effective (closeWork s).zones[z].qReq
          (zoneOf s.tables z).minDuty ((closeWork s).airflow z) ∧
      (closeWork s).zones[z].shortfall =
        (allocateZone s.tables s.sampled.alloc.fans z s.sampled.zones[z]).2 := by
  have record := allocateZones_zone s.sampled z
  rw [sampled_tables, if_pos served] at record
  rw [closeWork_zones, ← State.sampled, record, allocateZone, closeWork_airflow]
  exact ⟨rfl, rfl⟩

/-- R101: the duty that a fan's enabled zone allocates to it. -/
theorem closeWork_allocated {s : State} {f : Fin 16} {z : Fin 8} (enabled : (fanOf s.tables f).enable = true)
    (zone : (fanOf s.tables f).zone = z.val) (served : (zoneOf s.tables z).enable = true) :
    (closeWork s).alloc.fans[f].allocated =
      (allocateZone s.tables s.sampled.alloc.fans z s.sampled.zones[z]).1 := by
  have tables := sampled_tables s
  rw [closeWork_fan, if_pos enabled, worked_allocated]
  rw [← tables] at enabled zone served ⊢
  exact allocateZones_allocated enabled zone served

/-- R110: an enabled REMOTE fan after a close, which takes no sample. -/
theorem closeWork_fan_remote {s : State} {f : Fin 16} (enabled : (fanOf s.tables f).enable = true)
    (remote : (fanOf s.tables f).remote = true) :
    ∃ allocated, (closeWork s).alloc.fans[f] =
      (FanRec.recommand s.control.device { s.alloc.fans[f] with allocated }).workFlag (fanOf s.tables f) := by
  have notLocal : ¬ (fanOf s.tables f).enabledLocal = true := by simp [FanEntry.enabledLocal, remote]
  rw [closeWork_fan, if_pos enabled, sampled_fan, if_neg notLocal,
    worked_of_remote ((enabledRemote_iff _).2 ⟨enabled, remote⟩)]
  exact ⟨_, rfl⟩

/-- R96: an enabled LOCAL fan after a close, which takes its tach count. -/
theorem closeWork_fan_local {s : State} {f : Fin 16} (enabled : (fanOf s.tables f).enable = true)
    (local_ : (fanOf s.tables f).remote = false) :
    ∃ allocated, (closeWork s).alloc.fans[f] =
      FanRec.recommand s.control.device
        { s.alloc.fans[f].takeTach (fanOf s.tables f) (tachOf s.pwm.tach (fanOf s.tables f).output) with
          allocated } := by
  have isLocal : (fanOf s.tables f).enabledLocal = true := by simp [FanEntry.enabledLocal, enabled, local_]
  have notRemote : (fanOf s.tables f).enabledRemote = false := by simp [FanEntry.enabledRemote, local_]
  rw [closeWork_fan, if_pos enabled, sampled_fan, if_pos isLocal, worked_of_local notRemote]
  exact ⟨_, rfl⟩

/-! ### The outputs and the interlock (R106 to R108, R112) -/

theorem activeBank_of_active {s : State} (active : s.banks.active ≠ none) :
    s.banks.activeBank = some s.tables := by
  obtain ⟨bank, named⟩ := Option.ne_none_iff_exists'.1 active
  simp [State.tables, BankManager.activeBank, named]

/-- R108: an output's pair is that of the commanded duties that the close leaves. -/
theorem closeWork_output_next (s : State) (k : Fin 4) :
    (closeWork s).pwm.outputs[k].next = some (outputPair (closeWork s) k) := by
  have commanded : ∀ f : Fin 16, (closeWork s).alloc.fans[f].commanded =
      (commandFans (allocateZones s.sampled)).alloc.fans[f].commanded := fun f => by
    rw [closeWork_alloc, ← State.sampled, workFlags_fan]
    split
    · exact workFlag_commanded _ _
    · rfl
  have banks : (closeWork s).banks = (commandFans (allocateZones s.sampled)).banks := by
    rw [closeWork_banks, commandFans_banks, allocateZones_banks, State.sampled, sampleLocalFans_banks,
      evaluateZones_banks, closeScan_frame]
  have pair : outputPair (closeWork s) k = outputPair (commandFans (allocateZones s.sampled)) k := by
    simp only [outputPair, commanded, banks]
  rw [pair, closeWork_pwm, ← State.sampled, commandFans, writeOutputs, fin_getElem_mapFin]
  rfl

/-- R112: the interlock holds boost charge off outside RUN, and in RUN while an enabled zone does. -/
theorem closeWork_inhibit_iff (s : State) :
    (closeWork s).alloc.inhibit = true ↔
      s.control.device ≠ .run ∨ ∃ z : Fin 8, (closeWork s).zoneInhibits z := by
  have inhibit : (closeWork s).alloc.inhibit =
      interlockOf s.control.device (closeWork s).tables (closeWork s).zones := by
    rw [closeWork_tables, closeWork_alloc]
  rw [inhibit]
  by_cases run : s.control.device = .run
  · rw [run, interlockOf_run_iff]
    simp
  · simp [interlockOf, run]

/-! ### The plain close -/

/-- What the work of a close leaves in the record of an enabled fan. -/
theorem closeWork_enabled_fan {s : State} {f : Fin 16} {e : FanEntry} {old new : FanRec} {count : Nat}
    (entry : e = fanOf s.tables f) (before : old = s.alloc.fans[f]) (after : new = (closeWork s).alloc.fans[f])
    (counted : count = (s.pwm.tach[e.output]?).getD 0) (enabled : e.enable = true) :
    new.manual = old.manual ∧ new.lastStatus = old.lastStatus ∧ new.lastSent = old.lastSent ∧
      (e.remote = true →
        new.health = old.health ∧ new.failCount = old.failCount ∧ new.goodCount = old.goodCount ∧
        new.lastTach = old.lastTach ∧ new.sinceSent = min (old.sinceSent + 1) 16 ∧
        (new.flag = true ↔ old.flag = true ∨ old.lastSent ≠ some new.commanded ∨
          e.refreshCycles ≤ new.sinceSent)) ∧
      (e.remote = false →
        new.lastTach = count ∧ new.sinceSent = old.sinceSent ∧ new.flag = old.flag ∧
        (new.health, new.failCount, new.goodCount) =
          (if old.commanded = 0 then (old.health, old.failCount, old.goodCount)
          else if count < e.tachMin then
            ((old.afterBad e).health, (old.afterBad e).failCount, (old.afterBad e).goodCount)
          else
            ((old.afterGood e).health, (old.afterGood e).failCount, (old.afterGood e).goodCount))) ∧
      new.commanded =
        (if s.control.device = .run then max new.allocated (old.manual.getD 0) else 100) := by
  rw [entry] at enabled counted ⊢
  cases remote : (fanOf s.tables f).remote with
  | true =>
    obtain ⟨allocated, record⟩ := closeWork_fan_remote enabled remote
    rw [after, record, ← before]
    refine ⟨rfl, rfl, rfl, fun _ => ⟨rfl, rfl, rfl, rfl, rfl, ?_⟩, by simp, commandedDuty_eq _ _⟩
    simp [FanRec.workFlag, FanRec.recommand, or_assoc]
  | false =>
    obtain ⟨allocated, record⟩ := closeWork_fan_local enabled remote
    rw [after, record, ← before, tachOf_eq, ← counted, takeTach_eq]
    refine ⟨rfl, rfl, rfl, by simp, fun _ => ⟨rfl, rfl, rfl, ?_⟩, commandedDuty_eq _ _⟩
    simp only [FanRec.recommand]
    split
    · rfl
    · split <;> rfl

/-- Settles O47: a cycle start leaves the fans, the zones and the outputs as the close's work does. -/
theorem closeWorksTheFans : Obligations.CloseWorksTheFans := by
  intro s plain active
  obtain ⟨t, after⟩ : ∃ t, t = if closeIsLate s then cycleStart (closeWork s) else closeWork s := ⟨_, rfl⟩
  have frame := plainClose_frame after
  have alloc : t.alloc = (closeWork s).alloc := by rw [frame]
  have zones : t.zones = (closeWork s).zones := by rw [frame]
  have pwm : t.pwm = (closeWork s).pwm := by rw [frame]
  have airflow : ∀ z, t.airflow z = (closeWork s).airflow z := fun z => by rw [frame]; rfl
  have inhibits : ∀ z, t.zoneInhibits z ↔ (closeWork s).zoneInhibits z := fun z => by rw [frame]; rfl
  have bank : (closeWork s).banks.activeBank = some s.tables := by
    rw [closeWork_banks]
    exact activeBank_of_active active
  obtain ⟨tach, running⟩ := closeWork_pwm_running s
  refine ⟨t, by rw [exec_cycleClose_of_plain plain, ← after], fun f e old new count entry before new_ counted =>
    ⟨fun disabled => ?_, fun enabled => ?_⟩, fun z served => ?_, by rw [pwm, tach], fun k =>
    ⟨by rw [pwm, running], fun free => ?_, fun f assigned => ?_⟩, ?_⟩
  · rw [new_, alloc, closeWork_fan, ← entry, if_neg (by simp [disabled]), before]
  · rw [alloc] at new_
    obtain ⟨manual, lastStatus, lastSent, remote, local_, commanded⟩ :=
      closeWork_enabled_fan entry before new_ counted enabled
    refine ⟨manual, lastStatus, lastSent, remote, local_, fun z zone served => ?_, commanded⟩
    rw [entry] at enabled zone
    rw [new_, closeWork_allocated enabled zone served, (closeWork_allocation served).1, allocate_duty, zones,
      airflow]
  · obtain ⟨allocation, shortfall⟩ := closeWork_allocation served
    rw [zones, airflow, shortfall, allocation, allocate_shortfall]
  · rw [pwm, closeWork_output_next, outputPair_of_unassigned bank free]
    rfl
  · rw [pwm, alloc, closeWork_output_next, outputPair_of_assigned bank assigned]
    rfl
  · rw [alloc, closeWork_inhibit_iff]
    simp only [inhibits]

end Sys2Proof.Machine
end

section
/-! The ALARM and HORN relays, which follow the sources and the policy in force after every command (R126, R146
to R148). Settles StepKeepsRelaysFollow. -/

namespace Sys2Proof.Machine

/-! ### What keeps the relays following -/

/-- R146 to R148: the relays read the states of the sources and, for the policy, the active bank. -/
theorem relaysFollow_of_states {s t : State} (h : s.relaysFollow)
    (alarmOn : t.alarm.alarmOn = s.alarm.alarmOn) (hornOn : t.alarm.hornOn = s.alarm.hornOn)
    (states : ∀ i : Fin 77, t.alarm.sources[i].state = s.alarm.sources[i].state)
    (bank : t.banks.activeBank = s.banks.activeBank) : t.relaysFollow := by
  have policy : t.policy = s.policy := by simp only [State.policy, BankManager.policy, bank]
  simp only [State.relaysFollow, alarmOn, hornOn, states, policy]
  exact h

theorem relaysFollow_of_alarm {s t : State} (h : s.relaysFollow) (alarm : t.alarm = s.alarm)
    (bank : t.banks.activeBank = s.banks.activeBank) : t.relaysFollow :=
  relaysFollow_of_states h (by rw [alarm]) (by rw [alarm]) (fun _ => by rw [alarm]) bank

/-- Out of reset the invariant asks no more than that the relays follow. -/
theorem State.relaysFollow.of_running {s : State} (h : s.relaysFollow) (held : s.held = false) :
    s.RelaysFollow where
  alarm := h.1
  horn := h.2
  hold holds := by rw [held] at holds; cases holds

/-! ### North arrivals (R142, R149, R164) -/

theorem relaysFollow_respondOwn {s : State} (h : s.relaysFollow) (code : Byte) (result : ResultCode)
    (payload : List Byte) : (respondOwn code result payload s).relaysFollow := h

/-- R142, R149: an ACKNOWLEDGE moves sources and evaluates the relays; no other request moves a source or writes
the active bank. -/
theorem relaysFollow_serveRequest (payload : List Byte) {s : State} (h : s.relaysFollow) :
    (serveRequest payload s).relaysFollow := by
  have acknowledged : ∀ fields, (serveAcknowledge fields s).relaysFollow := fun fields => by
    unfold serveAcknowledge
    repeat' split
    · exact relaysFollow_respondOwn (evalRelays_follow _) _ _ _
    · exact relaysFollow_respondOwn h _ _ _
    · exact relaysFollow_respondOwn h _ _ _
  unfold serveRequest
  repeat' split
  · exact h
  · exact relaysFollow_of_alarm h (by rw [serveTableWrite_frame]) (serveTableWrite_activeBank _ s)
  · rw [serveTableRead_frame]; exact h
  · exact relaysFollow_of_alarm h (by rw [serveActivate_frame])
      (by rw [serveActivate_frame]; exact activeBank_congr rfl rfl rfl)
  · exact acknowledged _
  · rw [serveStatus_frame]; exact h
  · rw [serveReadChannels_frame]; exact h
  · rw [serveReadZone_frame]; exact h
  · rw [serveReadFan_frame]; exact h
  · exact relaysFollow_of_alarm h (by rw [serveRestart_frame])
      (by rw [serveRestart_frame]; exact activeBank_congr rfl rfl rfl)
  · exact h

/-- R164: an arrival that clears SUPERVISOR LOST evaluates the relays. -/
theorem relaysFollow_afterArrival {s : State} (h : s.relaysFollow) : s.afterArrival.relaysFollow := by
  by_cases device : s.control.device = .unconfigured
  · rw [afterArrival_unconfigured device]; exact h
  · rw [afterArrival_configured device]
    split
    · exact evalRelays_follow _
    · exact h

theorem relaysFollow_receiveNorth (t : Telegram) {s : State} (h : s.relaysFollow) :
    (receiveNorth t s).relaysFollow := by
  have arrived := relaysFollow_afterArrival h
  rcases receiveNorth_cases t s with ⟨_, e⟩ | ⟨_, _, e⟩ | ⟨_, _, _, ⟨_, e⟩ | ⟨_, _, e⟩ | ⟨_, _, e⟩⟩ <;>
    rw [e]
  · exact h
  · exact h
  · exact arrived
  · unfold dispatchOwn
    split
    · exact relaysFollow_serveRequest _ (s := reserveReply s.afterArrival) arrived
    · exact arrived
  · rw [dispatchNode_frame]; exact arrived

/-! ### The south loop (R25, R43) -/

theorem relaysFollow_takeReadingFrom (node status : Byte) (raw : Nat) {s : State} (h : s.relaysFollow) :
    (takeReadingFrom node status raw s).relaysFollow := by
  unfold takeReadingFrom
  split
  · rw [takeReading_frame]; exact h
  · exact evalRelays_follow _

theorem relaysFollow_takeDriveStatusFrom (node : Byte) (st : DriveReply) {s : State} (h : s.relaysFollow) :
    (takeDriveStatusFrom node st s).relaysFollow := by
  unfold takeDriveStatusFrom
  split
  · rw [takeDriveStatus_frame]; exact h
  · exact evalRelays_follow _

/-- A reply keeps the relays following if what it is handed to does. -/
theorem relaysFollow_receiveSouth (t : Telegram) {take : Transaction → State → State} {s : State}
    (h : s.relaysFollow) (keeps : ∀ tr u, u.relaysFollow → (take tr u).relaysFollow) :
    (receiveSouth t take s).relaysFollow := by
  rcases receiveSouth_cases t take s with ⟨_, e⟩ | ⟨_, _, tr, _, _, e⟩ | ⟨_, _, e⟩ <;> rw [e]
  · exact h
  · exact keeps tr s.afterReply h
  · exact h

/-! ### The north transmitter (R145) -/

/-- R145: a class that is served clears at most a notice flag. -/
theorem serveClass_state (c : NorthClass) (s : State) (i : Fin 77) :
    (serveClass c s).alarm.sources[i].state = s.alarm.sources[i].state := by
  rcases serveClass_sources c s with e | ⟨j, e⟩ <;> rw [e]
  rw [fin_getElem_set]
  split
  · next same => rw [same]
  · rfl

theorem northChoiceStep_state (s : State) (i : Fin 77) :
    (northChoiceStep s).alarm.sources[i].state = s.alarm.sources[i].state := by
  rcases northChoiceStep_cases s with ⟨_, c, _, e⟩ | ⟨_, e⟩ <;> rw [e]
  exact serveClass_state c (updateCredits c s) i

/-! ### The cycle and the activation (R20, R21, R121, R186, R187) -/

theorem relaysFollow_timerExpiry {s : State} (h : s.relaysFollow) : (timerExpiry s).relaysFollow := by
  unfold timerExpiry
  repeat' split
  · exact evalRelays_follow _
  · exact h
  · exact h

/-- R20, R121, R187: each part of a close that moves a source or the active bank evaluates the relays. -/
theorem relaysFollow_closeCycle (s : State) : (closeCycle s).relaysFollow := by
  have swapped : (closeSwap (closeWork s)).relaysFollow := by
    rcases closeSwap_cases (closeWork s) with ⟨_, e⟩ | ⟨_, e⟩ <;> rw [e]
    · exact swapAtClose_relaysFollow _
    · exact evalRelays_follow _
  have ended : (closePurge (closeSwap (closeWork s))).relaysFollow := by
    rcases closePurge_cases (closeSwap (closeWork s)) with ⟨_, _, e⟩ | ⟨_, e⟩ <;> rw [e]
    · exact purgeExpiry_relaysFollow _
    · exact swapped
  unfold closeCycle
  split <;> exact ended

/-- R186: a first activation evaluates the relays; an end of the check without one moves no source. -/
theorem relaysFollow_checkEndStep {s : State} (h : s.relaysFollow) : (checkEndStep s).relaysFollow := by
  have kept : ∀ state, State.relaysFollow { s with banks := { s.banks with state := state } } := fun _ =>
    relaysFollow_of_alarm h rfl (activeBank_congr rfl rfl rfl)
  unfold checkEndStep checkEnd
  repeat' split
  · exact kept .idle
  · exact kept .idle
  · exact evalRelays_follow _
  · exact kept .swapPending
  · exact h

/-! ### All commands -/

/-- R146 to R148: a command other than the two reset pins leaves the relays following. -/
theorem effect_keeps_relaysFollow (c : Instr) {s : State} (h : s.relaysFollow)
    (noRelease : ∀ r, c ≠ .coldReset r) (noHold : ∀ k, c ≠ .resetHold k) : (effect c s).relaysFollow := by
  cases c with
  | coldReset r => exact absurd rfl (noRelease r)
  | resetHold k => exact absurd rfl (noHold k)
  | warmReset =>
    simp only [effect]
    split
    · exact warmReset_relaysFollow s
    · exact h
  | tableWrite | tableRead | activate | acknowledge | status | readChannels | readZone | readFan | restart
  | driveSet | command | dispatchBadRequest | unknownRequest => exact relaysFollow_receiveNorth _ h
  | reading => exact relaysFollow_receiveSouth _ h fun tr u hu => relaysFollow_takeReadingFrom _ _ _ hu
  | driveStatus => exact relaysFollow_receiveSouth _ h fun tr u hu => relaysFollow_takeDriveStatusFrom _ _ hu
  | answer => exact relaysFollow_receiveSouth _ h fun tr u hu => by rw [takeAnswer_frame]; exact hu
  | replyWindowExpiry receiving =>
    rcases windowExpiry_cases receiving s with ⟨tr, _, _, e⟩ | ⟨_, e⟩ <;> simp only [effect, e]
    · rw [deliverMiss_frame]; exact h
    · exact h
  | localConversionComplete sample =>
    rcases conversionStep_cases sample s with ⟨i, rest, _, e⟩ | ⟨_, e⟩ <;> simp only [effect, e]
    · rw [takeReading_frame]; exact h
    · exact h
  | cycleTimerExpiry => exact relaysFollow_timerExpiry h
  | cycleClose =>
    simp only [effect]
    split
    · exact relaysFollow_closeCycle s
    · exact h
  | fanDrive =>
    rcases fanDriveStep_cases s with ⟨_, f, _, e⟩ | ⟨_, _, e⟩ | ⟨_, e⟩ <;> simp only [effect, e]
    · exact relaysFollow_of_same h (by simp [openFanDrive]) (by simp [openFanDrive])
    · exact relaysFollow_of_same h (by simp) (by simp)
    · exact h
  | relayTransaction =>
    rcases relayStep_cases s with ⟨_, entry, _, e⟩ | ⟨_, e⟩ <;> simp only [effect, e]
    · exact relaysFollow_of_same h (by simp [openRelay]) (by simp [openRelay])
    · exact h
  | scanTransaction =>
    rcases scanStep_cases s with ⟨_, i, _, e⟩ | ⟨_, e⟩ <;> simp only [effect, e]
    · exact relaysFollow_of_same h (by simp [openScan]) (by simp [openScan])
    · exact h
  | southRateChange =>
    rcases southRateStep_cases s with ⟨_, _, _, e⟩ | ⟨_, e⟩ <;> simp only [effect, e] <;> exact h
  | northChoice =>
    refine relaysFollow_of_states h ?_ ?_ (northChoiceStep_state s) ?_ <;> simp only [effect] <;>
      rw [northChoiceStep_frame]
  | northTransmissionEnd receiving =>
    simp only [effect]
    rw [northSent_frame]
    exact relaysFollow_of_alarm h rfl (activeBank_congr rfl rfl rfl)
  | activationCheckEnd => exact relaysFollow_checkEndStep h
  | purgeTimerExpiry =>
    rcases purgeTimerStep_cases s with ⟨_, _, e⟩ | e <;> simp only [effect, e]
    · exact purgeExpiry_relaysFollow s
    · exact h
  | supervisorSilenceExpiry =>
    rcases silenceExpiry_cases s with ⟨_, _, e⟩ | ⟨_, e⟩ <;> simp only [effect, e]
    · exact evalRelays_follow _
    · exact h
  | tachPulse | pwmPeriodEnd => exact h
  | lineIdle line => simp only [effect]; rw [idleStep_frame]; exact h
  | telegramAbandoned line cause =>
    rcases abandonStep_cases line cause s with ⟨_, e⟩ | ⟨_, e⟩ <;> simp only [effect, e]
    · rw [endReception_frame]; exact h
    · exact h
  | discardedTelegram line chars =>
    rcases discardStep_cases line chars s with ⟨_, _, e⟩ | ⟨_, e⟩ <;> simp only [effect, e]
    · rw [endReception_frame]; exact h
    · exact h
  | southTransmissionEnd =>
    rcases southSent_cases s with ⟨_, e⟩ | ⟨_, e⟩ <;> simp only [effect, e] <;> exact h

/-! ### The two reset pins (R126, R152, R197) -/

/-- R126: in a hold both relays are off and every source is NORMAL. -/
theorem relaysFollow_resetHold (k : Hold) (s : State) : (resetHold k s).RelaysFollow := by
  have normal : ∀ i : Fin 77, (resetHold k s).alarm.sources[i].state = .normal := fun i => by
    simp [resetHold, AlarmUnit.initial, SourceRec.initial]
  exact {
    alarm := iff_of_false Bool.false_ne_true fun ⟨i, moved⟩ => moved (normal i)
    horn := iff_of_false Bool.false_ne_true fun ⟨i, _, awaits⟩ => by rw [normal] at awaits; simp at awaits
    hold := fun _ => ⟨rfl, rfl⟩ }

/-- R126, R152: a release that does not end the hold leaves the relays off, and a cold reset sets them for
UNCONFIGURED. -/
theorem relaysFollow_releaseHold (release : Release) {s : State} (h : s.RelaysFollow) :
    (releaseHold release s).RelaysFollow := by
  rcases releaseHold_cases release s with ⟨_, e⟩ | ⟨held, _, e⟩ | ⟨_, _, e⟩ <;> rw [e]
  · exact h
  · exact { h with hold := fun _ => h.hold held }
  · exact { reset_relaysFollow with }

/-- Settles O9: a command of the running part evaluates the relays wherever it moves a source or the active bank,
and the reset pins set them with the sources. -/
theorem stepKeepsRelaysFollow : Obligations.StepKeepsRelaysFollow := by
  refine step_keeps (fun _ _ h => { h with }) fun c s taken h => ?_
  by_cases release : ∃ r, c = .coldReset r
  · obtain ⟨r, rfl⟩ := release
    exact relaysFollow_releaseHold r h
  by_cases cause : ∃ k, c = .resetHold k
  · obtain ⟨k, rfl⟩ := cause
    simp only [effect]
    split
    · exact relaysFollow_resetHold _ s
    · exact h
  have held : s.held = false := Bool.eq_false_iff.2 fun holds => (taken holds).elim release cause
  have noRelease : ∀ r, c ≠ .coldReset r := fun r e => release ⟨r, e⟩
  have noHold : ∀ k, c ≠ .resetHold k := fun k e => cause ⟨k, e⟩
  have running : (effect c s).held = false := by
    rw [State.held, (effect_samePart c s held noRelease noHold).hold]
    exact held
  exact (effect_keeps_relaysFollow c ⟨h.alarm, h.horn⟩ noRelease noHold).of_running running

end Sys2Proof.Machine
end

section
/-! The commands that change a byte of a bank, the device state or a zone source, and no others (R118 to R120,
R132, R140 to R142, R175, R178). Settles OnlyNamedCommandsChangeBanksDeviceZoneSources. -/

namespace Sys2Proof.Machine

/-! ### What no other command changes -/

/-- The bytes of both banks, the device state and the states of the zone sources stand as they were. A field that
stands by definition need not be given. -/
structure SameNamed (s t : State) : Prop where
  bankA : t.banks.bankA = s.banks.bankA := by rfl
  bankB : t.banks.bankB = s.banks.bankB := by rfl
  device : t.control.device = s.control.device := by rfl
  zones : ∀ i : Fin 77, i.val < 72 → t.alarm.sources[i].state = s.alarm.sources[i].state := by intros; rfl

theorem SameNamed.trans {s t u : State} (h : SameNamed s t) (k : SameNamed t u) : SameNamed s u where
  bankA := k.bankA.trans h.bankA
  bankB := k.bankB.trans h.bankB
  device := k.device.trans h.device
  zones i zone := (k.zones i zone).trans (h.zones i zone)

theorem sameNamed_of_eq {s t : State} (banks : t.banks = s.banks) (control : t.control = s.control)
    (alarm : t.alarm = s.alarm) : SameNamed s t where
  bankA := by rw [banks]
  bankB := by rw [banks]
  device := by rw [control]
  zones _ _ := by rw [alarm]

/-- The condition of a device source moves no zone source. -/
theorem sameNamed_handCondition {i : Fin 77} (device : 72 ≤ i.val) (holds : Bool) (s : State) :
    SameNamed s (handCondition i holds s) where
  zones j zone := by rw [handCondition_source_val, if_neg (by omega)]

theorem sameNamed_evalRelays (s : State) : SameNamed s (evalRelays s) := {}

/-! ### North arrivals (R142, R149, R164, R178) -/

/-- The telegram is a REQUEST to an address with a request code (R177). -/
def Telegram.asks (t : Telegram) (address code : Byte) : Prop :=
  t.dest = address ∧ t.kind = .request ∧ ∃ fields, t.payload = code :: fields

theorem ownRequest_asks_iff (s : State) (code other : Byte) (fields : List Byte) :
    (ownRequest s code fields).asks s.address other ↔ code = other := by
  simp [Telegram.asks, ownRequest]

theorem not_asks_of_kind {t : Telegram} (kind : t.kind ≠ .request) (address code : Byte) :
    ¬ t.asks address code := fun asks => kind asks.2.1

/-- R8: a field node's address is not the part's own. -/
theorem not_asks_of_node {t : Telegram} {s : State} (own : s.OwnAddress) (node : t.dest.toNat ≤ 247) (code : Byte) :
    ¬ t.asks s.address code := fun asks => by
  have high : 248 ≤ s.address.toNat := own
  rw [asks.1] at node
  omega

/-- R178: of the requests TABLE WRITE alone writes a bank. -/
theorem serveRequest_bytes {payload : List Byte} (other : ∀ fields, payload ≠ codeTableWrite :: fields)
    (s : State) :
    (serveRequest payload s).banks.bankA = s.banks.bankA ∧
      (serveRequest payload s).banks.bankB = s.banks.bankB := by
  unfold serveRequest
  repeat' split
  · exact ⟨rfl, rfl⟩
  · next write => exact absurd (congrArg (· :: _) write) (other _)
  · rw [serveTableRead_frame]; exact ⟨rfl, rfl⟩
  · rw [serveActivate_frame]; exact ⟨rfl, rfl⟩
  · rw [serveAcknowledge_frame]; exact ⟨rfl, rfl⟩
  · rw [serveStatus_frame]; exact ⟨rfl, rfl⟩
  · rw [serveReadChannels_frame]; exact ⟨rfl, rfl⟩
  · rw [serveReadZone_frame]; exact ⟨rfl, rfl⟩
  · rw [serveReadFan_frame]; exact ⟨rfl, rfl⟩
  · rw [serveRestart_frame]; exact ⟨rfl, rfl⟩
  · exact ⟨rfl, rfl⟩

/-- R142, R149: of the requests ACKNOWLEDGE alone writes the Alarm Unit. -/
theorem serveRequest_alarm {payload : List Byte} (other : ∀ fields, payload ≠ codeAcknowledge :: fields)
    (s : State) : (serveRequest payload s).alarm = s.alarm := by
  unfold serveRequest
  repeat' split
  · rfl
  · rw [serveTableWrite_frame]
  · rw [serveTableRead_frame]
  · rw [serveActivate_frame]
  · next acknowledge => exact absurd (congrArg (· :: _) acknowledge) (other _)
  · rw [serveStatus_frame]
  · rw [serveReadChannels_frame]
  · rw [serveReadZone_frame]
  · rw [serveReadFan_frame]
  · rw [serveRestart_frame]
  · rfl

/-- R164: an arrival hands over SUPERVISOR LOST, which is no zone's, and writes no bank. -/
theorem sameNamed_afterArrival (s : State) : SameNamed s s.afterArrival := by
  by_cases device : s.control.device = .unconfigured
  · rw [afterArrival_unconfigured device]; exact {}
  · rw [afterArrival_configured device]
    split
    · exact SameNamed.trans {} ((sameNamed_handCondition (by decide) _ _).trans (sameNamed_evalRelays _))
    · exact {}

theorem receiveNorth_bytes {t : Telegram} {s : State} (other : ¬ t.asks s.address codeTableWrite) :
    (receiveNorth t s).banks.bankA = s.banks.bankA ∧ (receiveNorth t s).banks.bankB = s.banks.bankB := by
  have arrived := sameNamed_afterArrival s
  rcases receiveNorth_cases t s with ⟨_, e⟩ | ⟨_, _, e⟩ | ⟨_, _, _, ⟨_, e⟩ | ⟨_, own, e⟩ | ⟨_, _, e⟩⟩ <;>
    rw [e]
  · exact ⟨rfl, rfl⟩
  · exact ⟨rfl, rfl⟩
  · exact ⟨arrived.bankA, arrived.bankB⟩
  · unfold dispatchOwn
    split
    · next request =>
      obtain ⟨bankA, bankB⟩ := serveRequest_bytes (fun fields write => other ⟨own, request, fields, write⟩)
        (reserveReply s.afterArrival)
      exact ⟨bankA.trans arrived.bankA, bankB.trans arrived.bankB⟩
    · exact ⟨arrived.bankA, arrived.bankB⟩
  · rw [dispatchNode_frame]
    exact ⟨arrived.bankA, arrived.bankB⟩

theorem receiveNorth_device (t : Telegram) (s : State) :
    (receiveNorth t s).control.device = s.control.device := by
  rw [receiveNorth_frame]

theorem receiveNorth_zones {t : Telegram} {s : State} (other : ¬ t.asks s.address codeAcknowledge)
    {i : Fin 77} (zone : i.val < 72) :
    (receiveNorth t s).alarm.sources[i].state = s.alarm.sources[i].state := by
  have arrived := (sameNamed_afterArrival s).zones i zone
  rcases receiveNorth_cases t s with ⟨_, e⟩ | ⟨_, _, e⟩ | ⟨_, _, _, ⟨_, e⟩ | ⟨_, own, e⟩ | ⟨_, _, e⟩⟩ <;>
    rw [e]
  · exact arrived
  · unfold dispatchOwn
    split
    · next request =>
      rw [serveRequest_alarm fun fields acknowledge => other ⟨own, request, fields, acknowledge⟩]
      exact arrived
    · exact arrived
  · rw [dispatchNode_frame]
    exact arrived

theorem sameNamed_receiveNorth {t : Telegram} {s : State} (noWrite : ¬ t.asks s.address codeTableWrite)
    (noAcknowledge : ¬ t.asks s.address codeAcknowledge) : SameNamed s (receiveNorth t s) where
  bankA := (receiveNorth_bytes noWrite).1
  bankB := (receiveNorth_bytes noWrite).2
  device := receiveNorth_device t s
  zones _ zone := receiveNorth_zones noAcknowledge zone

/-- A request with a code of its own, neither TABLE WRITE's nor ACKNOWLEDGE's. -/
theorem sameNamed_receiveRequest {code : Byte} (noWrite : code ≠ codeTableWrite)
    (noAcknowledge : code ≠ codeAcknowledge) (fields : List Byte) (s : State) :
    SameNamed s (receiveRequest code fields s) :=
  sameNamed_receiveNorth (mt (ownRequest_asks_iff s _ _ _).1 noWrite)
    (mt (ownRequest_asks_iff s _ _ _).1 noAcknowledge)

/-- R13: a misdirected telegram is no request to the part. -/
theorem sameNamed_misdirected {telegram : Misdirected} {s : State}
    (wellFormed : (Instr.dispatchBadRequest telegram).WellFormed) (own : s.OwnAddress) :
    SameNamed s (receiveNorth (misdirectedTelegram s.address telegram) s) := by
  have no : ∀ code, ¬ (misdirectedTelegram s.address telegram).asks s.address code := by
    cases telegram with
    | driveSetToOwn | commandToOwn => exact not_asks_of_kind (by simp [misdirectedTelegram]) _
    | requestToNode node payload =>
      obtain ⟨node_, _⟩ := Bool.and_eq_true_iff.1 wellFormed
      exact not_asks_of_node own (of_decide_eq_true node_).2
  exact sameNamed_receiveNorth (no _) (no _)

/-! ### The south loop, the timers and the transmitter (R21, R25, R26, R43, R145, R165) -/

theorem sameNamed_takeUnclassified (s : State) : SameNamed s (takeUnclassified s) :=
  SameNamed.trans {} ((sameNamed_handCondition (by decide) _ _).trans (sameNamed_evalRelays _))

theorem sameNamed_takeReadingFrom (node status : Byte) (raw : Nat) (s : State) :
    SameNamed s (takeReadingFrom node status raw s) := by
  unfold takeReadingFrom
  split
  · rw [takeReading_frame]; exact {}
  · exact sameNamed_takeUnclassified s

theorem sameNamed_takeDriveStatusFrom (node : Byte) (st : DriveReply) (s : State) :
    SameNamed s (takeDriveStatusFrom node st s) := by
  unfold takeDriveStatusFrom
  split
  · rw [takeDriveStatus_frame]; exact {}
  · exact sameNamed_takeUnclassified s

/-- A reply changes nothing that is named if what it is handed to does not. -/
theorem sameNamed_receiveSouth (t : Telegram) {take : Transaction → State → State} (s : State)
    (leaves : ∀ tr u, SameNamed u (take tr u)) : SameNamed s (receiveSouth t take s) := by
  rcases receiveSouth_cases t take s with ⟨_, e⟩ | ⟨_, _, tr, _, _, e⟩ | ⟨_, _, e⟩ <;> rw [e]
  · exact {}
  · exact SameNamed.trans {} (leaves tr s.afterReply)
  · exact {}

theorem sameNamed_timerExpiry (s : State) : SameNamed s (timerExpiry s) := by
  unfold timerExpiry
  repeat' split
  · exact SameNamed.trans {} ((sameNamed_handCondition (by decide) _ _).trans (sameNamed_evalRelays _))
  · exact {}
  · exact {}

theorem sameNamed_silenceExpiry (s : State) : SameNamed s (silenceExpiry s) := by
  rcases silenceExpiry_cases s with ⟨_, _, e⟩ | ⟨_, e⟩ <;> rw [e]
  · exact SameNamed.trans {} ((sameNamed_handCondition (by decide) _ _).trans (sameNamed_evalRelays _))
  · exact {}

/-- R145: a choice of the north arbiter moves no source. -/
theorem sameNamed_northChoiceStep (s : State) : SameNamed s (northChoiceStep s) where
  bankA := by rw [northChoiceStep_frame]
  bankB := by rw [northChoiceStep_frame]
  device := by rw [northChoiceStep_frame]
  zones i _ := northChoiceStep_state s i

/-! ### The commands that are named for the device state (R119, R120, R123, R186, R187) -/

/-- R187: a close, a swap among it, writes no byte of a bank. -/
theorem closeCycle_bytes (s : State) :
    (closeCycle s).banks.bankA = s.banks.bankA ∧ (closeCycle s).banks.bankB = s.banks.bankB := by
  have banks : (closeCycle s).banks = (closeSwap (closeWork s)).banks := by
    simp only [closeCycle]
    split
    · rw [cycleStart_banks, closePurge_frame]
    · rw [closePurge_frame]
  rw [banks]
  rcases closeSwap_cases (closeWork s) with ⟨_, e⟩ | ⟨_, e⟩ <;> rw [e]
  · rw [swapAtClose_frame, closeWork_banks]
    exact ⟨rfl, rfl⟩
  · rw [closeWork_banks]
    exact ⟨rfl, rfl⟩

/-- R183 to R186: the end of a check writes no byte of a bank and moves no zone source. -/
theorem checkEndStep_bytes_zones (s : State) :
    (checkEndStep s).banks.bankA = s.banks.bankA ∧ (checkEndStep s).banks.bankB = s.banks.bankB ∧
      ∀ i : Fin 77, i.val < 72 → (checkEndStep s).alarm.sources[i] = s.alarm.sources[i] := by
  unfold checkEndStep checkEnd
  repeat' split
  · exact ⟨rfl, rfl, fun _ _ => rfl⟩
  · exact ⟨rfl, rfl, fun _ _ => rfl⟩
  · have banks : (firstActivation s).banks = s.firstActivated.banks := by simp [firstActivation_eq, enterPurge]
    rw [banks, firstActivated_banks]
    exact ⟨rfl, rfl, fun i zone => by rw [firstActivation_source, if_neg (by omega), if_neg (by omega)]⟩
  · exact ⟨rfl, rfl, fun _ _ => rfl⟩
  · exact ⟨rfl, rfl, fun _ _ => rfl⟩

/-- R123: the expiry of the purge timer writes no bank and moves no zone source. -/
theorem purgeTimerStep_bytes_zones (s : State) :
    (purgeTimerStep s).banks = s.banks ∧
      ∀ i : Fin 77, i.val < 72 → (purgeTimerStep s).alarm.sources[i] = s.alarm.sources[i] := by
  rcases purgeTimerStep_cases s with ⟨_, _, e⟩ | e <;> rw [e]
  · exact ⟨by rw [purgeExpiry_frame], fun i zone => by rw [purgeExpiry_source, if_neg (by omega)]⟩
  · exact ⟨rfl, fun _ _ => rfl⟩

/-! ### The commands that are named -/

/-- R175, R178: the commands that change a bank's bytes. -/
def writesBanks : Instr → Bool
  | .tableWrite _ | .coldReset _ | .resetHold _ => true
  | _ => false

/-- R118 to R120: the commands that change the device state. -/
def movesDevice : Instr → Bool
  | .activationCheckEnd | .purgeTimerExpiry | .cycleClose | .warmReset | .coldReset _ | .resetHold _ => true
  | _ => false

/-- R132, R140 to R142: the commands that change the state of a zone source. -/
def movesZoneSources : Instr → Bool
  | .cycleClose | .acknowledge _ | .warmReset | .coldReset _ | .resetHold _ => true
  | _ => false

theorem writesBanks_iff (c : Instr) :
    writesBanks c = true ↔
      (∃ fields, c = .tableWrite fields) ∨ (∃ r, c = .coldReset r) ∨ (∃ h, c = .resetHold h) := by
  cases c <;> simp [writesBanks]

theorem movesDevice_iff (c : Instr) :
    movesDevice c = true ↔
      c = .activationCheckEnd ∨ c = .purgeTimerExpiry ∨ c = .cycleClose ∨ c = .warmReset ∨
        (∃ r, c = .coldReset r) ∨ (∃ h, c = .resetHold h) := by
  cases c <;> simp [movesDevice]

theorem movesZoneSources_iff (c : Instr) :
    movesZoneSources c = true ↔
      c = .cycleClose ∨ (∃ fields, c = .acknowledge fields) ∨ c = .warmReset ∨
        (∃ r, c = .coldReset r) ∨ (∃ h, c = .resetHold h) := by
  cases c <;> simp [movesZoneSources]

/-- A command changes what it is named for, and of the rest nothing. -/
structure ChangesNamed (c : Instr) (s t : State) : Prop where
  bytes : writesBanks c = false → t.banks.bankA = s.banks.bankA ∧ t.banks.bankB = s.banks.bankB
  device : movesDevice c = false → t.control.device = s.control.device
  zones : movesZoneSources c = false →
    ∀ i : Fin 77, i.val < 72 → t.alarm.sources[i].state = s.alarm.sources[i].state

theorem SameNamed.changes {s t : State} (h : SameNamed s t) (c : Instr) : ChangesNamed c s t where
  bytes _ := ⟨h.bankA, h.bankB⟩
  device _ := h.device
  zones _ := h.zones

/-! ### All commands -/

theorem effect_changesNamed (c : Instr) (s : State) (wellFormed : c.WellFormed) (own : s.OwnAddress) :
    ChangesNamed c s (effect c s) := by
  cases c with
  | coldReset | resetHold => exact ⟨nofun, nofun, nofun⟩
  | warmReset =>
    refine ⟨fun _ => ?_, nofun, nofun⟩
    simp only [effect]
    split
    · obtain ⟨_, _, _, _, _, banks, _⟩ := warmReset_blocks s
      rw [banks]
      exact ⟨rfl, rfl⟩
    · exact ⟨rfl, rfl⟩
  | tableWrite fields =>
    exact ⟨nofun, fun _ => receiveNorth_device _ s, fun _ i =>
      receiveNorth_zones (mt (ownRequest_asks_iff s _ _ _).1 (by decide))⟩
  | acknowledge fields =>
    exact ⟨fun _ => receiveNorth_bytes (mt (ownRequest_asks_iff s _ _ _).1 (by decide)),
      fun _ => receiveNorth_device _ s, nofun⟩
  | cycleClose =>
    refine ⟨fun _ => ?_, nofun, nofun⟩
    simp only [effect]
    split
    · exact closeCycle_bytes s
    · exact ⟨rfl, rfl⟩
  | activationCheckEnd =>
    obtain ⟨bankA, bankB, zones⟩ := checkEndStep_bytes_zones s
    exact ⟨fun _ => ⟨bankA, bankB⟩, nofun, fun _ i zone => congrArg SourceRec.state (zones i zone)⟩
  | purgeTimerExpiry =>
    obtain ⟨banks, zones⟩ := purgeTimerStep_bytes_zones s
    exact ⟨fun _ => ⟨congrArg BankManager.bankA banks, congrArg BankManager.bankB banks⟩, nofun,
      fun _ i zone => congrArg SourceRec.state (zones i zone)⟩
  | tableRead | activate | status | readChannels | readZone | readFan | restart =>
    exact (sameNamed_receiveRequest (by decide) (by decide) _ s).changes _
  | unknownRequest code fields =>
    obtain ⟨unnamed, _⟩ := Bool.and_eq_true_iff.1 wellFormed
    exact (sameNamed_receiveRequest (by rintro rfl; revert unnamed; decide)
      (by rintro rfl; revert unnamed; decide) _ s).changes _
  | driveSet | command =>
    exact (sameNamed_receiveNorth (not_asks_of_kind (by simp) _ _) (not_asks_of_kind (by simp) _ _)).changes _
  | dispatchBadRequest => exact (sameNamed_misdirected wellFormed own).changes _
  | reading => exact (sameNamed_receiveSouth _ s fun _ u => sameNamed_takeReadingFrom _ _ _ u).changes _
  | driveStatus => exact (sameNamed_receiveSouth _ s fun _ u => sameNamed_takeDriveStatusFrom _ _ u).changes _
  | answer =>
    exact (sameNamed_receiveSouth _ s fun _ u => by rw [takeAnswer_frame]; exact {}).changes _
  | replyWindowExpiry receiving =>
    rcases windowExpiry_cases receiving s with ⟨tr, _, _, e⟩ | ⟨_, e⟩ <;> simp only [effect, e]
    · rw [deliverMiss_frame]; exact SameNamed.changes {} _
    · exact SameNamed.changes {} _
  | localConversionComplete sample =>
    rcases conversionStep_cases sample s with ⟨i, rest, _, e⟩ | ⟨_, e⟩ <;> simp only [effect, e]
    · rw [takeReading_frame]; exact SameNamed.changes {} _
    · exact SameNamed.changes {} _
  | cycleTimerExpiry => exact (sameNamed_timerExpiry s).changes _
  | fanDrive =>
    rcases fanDriveStep_cases s with ⟨_, f, _, e⟩ | ⟨_, _, e⟩ | ⟨_, e⟩ <;> simp only [effect, e]
    · exact (sameNamed_of_eq (by simp [openFanDrive]) (by simp [openFanDrive]) (by simp [openFanDrive])).changes _
    · exact (sameNamed_of_eq (by simp) (by simp) (by simp)).changes _
    · exact SameNamed.changes {} _
  | relayTransaction =>
    rcases relayStep_cases s with ⟨_, entry, _, e⟩ | ⟨_, e⟩ <;> simp only [effect, e]
    · exact (sameNamed_of_eq (by simp [openRelay]) (by simp [openRelay]) (by simp [openRelay])).changes _
    · exact SameNamed.changes {} _
  | scanTransaction =>
    rcases scanStep_cases s with ⟨_, i, _, e⟩ | ⟨_, e⟩ <;> simp only [effect, e]
    · exact (sameNamed_of_eq (by simp [openScan]) (by simp [openScan]) (by simp [openScan])).changes _
    · exact SameNamed.changes {} _
  | southRateChange =>
    rcases southRateStep_cases s with ⟨_, _, _, e⟩ | ⟨_, e⟩ <;> simp only [effect, e] <;>
      exact SameNamed.changes {} _
  | northChoice => exact (sameNamed_northChoiceStep s).changes _
  | northTransmissionEnd receiving =>
    simp only [effect]
    rw [northSent_frame]
    exact SameNamed.changes {} _
  | supervisorSilenceExpiry => exact (sameNamed_silenceExpiry s).changes _
  | tachPulse | pwmPeriodEnd => exact SameNamed.changes {} _
  | lineIdle line => simp only [effect]; rw [idleStep_frame]; exact SameNamed.changes {} _
  | telegramAbandoned line cause =>
    rcases abandonStep_cases line cause s with ⟨_, e⟩ | ⟨_, e⟩ <;> simp only [effect, e]
    · rw [endReception_frame]; exact SameNamed.changes {} _
    · exact SameNamed.changes {} _
  | discardedTelegram line chars =>
    rcases discardStep_cases line chars s with ⟨_, _, e⟩ | ⟨_, e⟩ <;> simp only [effect, e]
    · rw [endReception_frame]; exact SameNamed.changes {} _
    · exact SameNamed.changes {} _
  | southTransmissionEnd =>
    rcases southSent_cases s with ⟨_, e⟩ | ⟨_, e⟩ <;> simp only [effect, e] <;> exact SameNamed.changes {} _

/-- A command is not taken, or has its effect. -/
theorem exec_next_cases {c : Instr} {s t : State} (h : exec c s = .next t) : t = s ∨ t = effect c s := by
  cases held : s.held
  · rw [exec_of_running c held] at h
    cases h
    exact .inr rfl
  · rcases exec_of_held c held with e | ⟨_, e⟩ <;> rw [e] at h <;> cases h
    · exact .inl rfl
    · exact .inr rfl

/-- Settles O3: a command that is not taken changes nothing, and one that has its effect changes what it is named
for. -/
theorem onlyNamedCommandsChangeBanksDeviceZoneSources :
    Obligations.OnlyNamedCommandsChangeBanksDeviceZoneSources := by
  intro c s t wellFormed own h
  have outcome := exec_next_cases h
  have changes : ChangesNamed c s t := by
    rcases outcome with rfl | rfl
    · exact SameNamed.changes {} c
    · exact effect_changesNamed c s wellFormed own
  refine ⟨fun written => (writesBanks_iff c).1 ?_, fun fields write => ?_,
    fun moved => (movesDevice_iff c).1 ?_, fun i zone moved => (movesZoneSources_iff c).1 ?_⟩
  · by_contra unnamed
    obtain ⟨bankA, bankB⟩ := changes.bytes (Bool.eq_false_iff.2 unnamed)
    exact written.elim (absurd bankA) (absurd bankB)
  · subst write
    rcases outcome with rfl | rfl
    · rfl
    · exact receiveNorth_activeBank _ s
  · by_contra unnamed
    exact moved (changes.device (Bool.eq_false_iff.2 unnamed))
  · by_contra unnamed
    exact moved (changes.zones (Bool.eq_false_iff.2 unnamed) i zone)

end Sys2Proof.Machine
end

section
/-! The end of a purge, at its timer's expiry or, of 0 s, at its first close (R119, R121, R123). Settles
PurgeEndsInRun. -/

namespace Sys2Proof.Machine

/-! ### What the end of a purge leaves (R112, R119, R123, R131) -/

/-- R131: a source whose condition does not hold is not moved by the news that it does not hold. -/
theorem handed_of_clear (cls : AlarmClass) {r : SourceRec} (clear : r.condition = false) :
    r.handed cls false = r := by
  obtain ⟨state, condition, notice⟩ := r
  cases clear
  rfl

/-- R123: from PURGE the UNCONFIGURED condition is clear already, and the end of the purge moves PURGE alone. -/
theorem purgeExpiry_source_of_configured {s : State}
    (configured : s.alarm.sources[(72 : Fin 77)].condition = false) (i : Fin 77) :
    (purgeExpiry s).alarm.sources[i] =
      if i.val = 73 then SourceRec.handed (s.policy.cls i) false s.alarm.sources[i]
      else s.alarm.sources[i] := by
  rw [purgeExpiry_source]
  by_cases unconfigured : i.val = 72
  · obtain rfl : i = 72 := Fin.ext unconfigured
    rw [if_pos (.inl rfl), if_neg (by decide), handed_of_clear _ configured]
  · simp only [unconfigured, false_or]

/-- R112, R123: the end of a purge evaluates the interlock from the zones as they stand. -/
theorem purgeExpiry_inhibit_iff (s : State) :
    (purgeExpiry s).alloc.inhibit = true ↔ ∃ z : Fin 8, s.zoneInhibits z := by
  rw [purgeExpiry_frame, ← interlockOf_run_iff]

/-- The UNCONFIGURED condition of a running part in PURGE is clear. -/
theorem unconfigured_clear_of_purge {s : State} (h : s.DeviceCoherent) (held : s.held = false)
    (purge : s.control.device = .purge) : s.alarm.sources[(72 : Fin 77)].condition = false := by
  rw [← Bool.not_eq_true, h.unconfigured held, purge]
  simp

/-! ### The expiry of the purge timer -/

theorem exec_purgeTimerExpiry_of_timed {s : State} {n : Nat} (held : s.held = false)
    (purge : s.control.device = .purge) (timer : s.control.purgeTimer = some (n + 1)) :
    exec .purgeTimerExpiry s = .next (purgeExpiry s) := by
  rw [exec_of_running _ held]
  simp only [effect, purgeTimerStep, purge, timer]

/-- R121: a purge of 0 s is not ended by its timer. -/
theorem exec_purgeTimerExpiry_of_zero {s : State} (held : s.held = false)
    (purge : s.control.device = .purge) (timer : s.control.purgeTimer = some 0) :
    exec .purgeTimerExpiry s = .next s := by
  rw [exec_of_running _ held]
  simp only [effect, purgeTimerStep, purge, timer]

/-! ### The close that ends a purge of 0 s (R20, R21, R121) -/

/-- The close's work, the end of the purge and, after a late close, the next cycle's start. -/
theorem closeCycle_of_purge {s : State} (noSwap : s.banks.state ≠ .swapPending)
    (purge : s.control.device = .purge) (timer : s.control.purgeTimer = some 0) :
    closeCycle s =
      if closeIsLate s then cycleStart (purgeExpiry (closeWork s)) else purgeExpiry (closeWork s) := by
  have control : (closeWork s).control = s.control := by rw [closeWork_frame]
  have unswapped : closeSwap (closeWork s) = closeWork s := by
    rcases closeSwap_cases (closeWork s) with ⟨pending, _⟩ | ⟨_, e⟩
    · exact absurd (by rw [← closeWork_banks]; exact pending) noSwap
    · exact e
  have ended : closePurge (closeWork s) = purgeExpiry (closeWork s) :=
    closePurge_of_ends (by rw [control]; exact ⟨purge, timer⟩)
  rw [closeCycle, unswapped, ended]

/-- The end of the purge and a cycle start leave what the close's work wrote but the device, the interlock, the
sources and the scan. -/
theorem closeCycle_of_purge_frame {s : State} (noSwap : s.banks.state ≠ .swapPending)
    (purge : s.control.device = .purge) (timer : s.control.purgeTimer = some 0) :
    closeCycle s = { closeWork s with
      control := { device := .run, purgeTimer := none, ready := true }
      alloc := { (closeWork s).alloc with
        inhibit := interlockOf .run (closeWork s).tables (closeWork s).zones }
      alarm := (purgeExpiry (closeWork s)).alarm
      scan := (closeCycle s).scan, converter := (closeCycle s).converter } := by
  have kept : closeCycle s = { purgeExpiry (closeWork s) with
      scan := (closeCycle s).scan, converter := (closeCycle s).converter } := by
    rw [closeCycle_of_purge noSwap purge timer]
    split <;> rfl
  rw [purgeExpiry_frame] at kept
  exact kept

/-- R20: a close in time starts no cycle. -/
theorem closeCycle_of_purge_running {s : State} {p : Nat} (noSwap : s.banks.state ≠ .swapPending)
    (purge : s.control.device = .purge) (zero : s.control.purgeTimer = some 0)
    (timer : s.scan.timer = .running p) :
    (closeCycle s).scan = { s.scan with cycleOpen := false, scanPos := none, overrun := false } ∧
      (closeCycle s).converter = s.converter := by
  have late : closeIsLate s = false := by rw [closeIsLate, timer]
  rw [closeCycle_of_purge noSwap purge zero, late, if_neg (by decide), purgeExpiry_frame, closeWork_scan, late,
    Bool.and_false, closeWork_frame]
  exact ⟨rfl, rfl⟩

/-- R21: a late close starts the next cycle. -/
theorem closeCycle_of_purge_expired {s : State} (noSwap : s.banks.state ≠ .swapPending)
    (purge : s.control.device = .purge) (zero : s.control.purgeTimer = some 0)
    (timer : s.scan.timer = .expired) (bound : s.scan.cycle ≤ 65535) :
    (closeCycle s).scan = s.started.scan ∧ (closeCycle s).converter = s.started.converter := by
  have late : closeIsLate s = true := by rw [closeIsLate, timer]
  have banks : (purgeExpiry (closeWork s)).banks = s.banks := by rw [purgeExpiry_frame, closeWork_banks]
  have tables : (purgeExpiry (closeWork s)).tables = s.tables := by rw [State.tables, State.tables, banks]
  have site : (purgeExpiry (closeWork s)).site = s.site := by rw [State.site, State.site, tables]
  have scan : (purgeExpiry (closeWork s)).scan = { s.scan with cycleOpen := false, scanPos := none } := by
    rw [purgeExpiry_frame, closeWork_scan, late, Bool.and_true]
  rw [closeCycle_of_purge noSwap purge zero, late, if_pos rfl, cycleStart_eq_started (by rw [scan]; exact bound),
    State.started, State.started, site, tables, scan]
  exact ⟨rfl, rfl⟩

/-- R110, R122: in PURGE the close's work commands every enabled fan 100. -/
theorem closeWork_commanded_of_purge {s : State} (purge : s.control.device = .purge) {f : Fin 16}
    (enabled : (fanOf s.tables f).enable = true) : (closeWork s).alloc.fans[f].commanded = 100 := by
  obtain ⟨_, _, _, _, _, commanded⟩ := closeWork_enabled_fan rfl rfl rfl rfl enabled
  rw [commanded, if_neg (by simp [purge])]

/-- Settles O51: both ends of a purge are the same operation, on the state as it stands or on what the close's work
leaves. -/
theorem purgeEndsInRun : Obligations.PurgeEndsInRun := by
  intro s coherent purge
  refine ⟨fun n held timer => ?_, fun ready zero noSwap => ?_⟩
  · exact ⟨purgeExpiry s, exec_purgeTimerExpiry_of_timed held purge timer, by rw [purgeExpiry_frame],
      purgeExpiry_inhibit_iff s,
      purgeExpiry_source_of_configured (unconfigured_clear_of_purge coherent held purge),
      purgeExpiry_relaysFollow s⟩
  have clear : (closeWork s).alarm.sources[(72 : Fin 77)].condition = false := by
    rw [closeWork_source, if_neg (by decide), if_neg (by simp)]
    exact unconfigured_clear_of_purge coherent ready.1 purge
  have policy : (closeWork s).policy = s.policy := by rw [State.policy, State.policy, closeWork_banks]
  have frame := closeCycle_of_purge_frame noSwap purge zero
  refine ⟨exec_purgeTimerExpiry_of_zero ready.1 purge zero, closeCycle s, closeWork s, rfl,
    exec_cycleClose_of_ready ready, ?_, fun p timer => ?_,
    fun timer bound => closeCycle_of_purge_expired noSwap purge zero timer bound, fun f enabled => ?_, ?_, fun i => ?_,
    ?_⟩
  · rw [frame]
  · obtain ⟨scan, converter⟩ := closeCycle_of_purge_running noSwap purge zero timer
    obtain ⟨_, _, _, _, _, idle⟩ := ready
    exact ⟨scan, converter.trans idle⟩
  · rw [frame]
    exact closeWork_commanded_of_purge purge enabled
  · rw [frame]
    exact interlockOf_run_iff (closeWork s)
  · rw [frame, ← policy]
    exact purgeExpiry_source_of_configured clear i
  · exact relaysFollow_of_same (purgeExpiry_relaysFollow (closeWork s)) (by rw [frame])
      (by rw [frame, purgeExpiry_frame])

end Sys2Proof.Machine
end

section
/-! The reset pins: what holds the part, what it shows while it is held, and what releases it (R126, R197, R198).
Settles ResetHoldHoldsThePart. -/

namespace Sys2Proof.Machine

/-! ### Entering a hold (R197) -/

/-- R197: the causes that count. -/
theorem counts_iff (h : Hold) (cause : HoldCause) :
    h.counts cause = true ↔
      match cause with
      | .resetLow us => 10 ≤ us ∨ h.supplyLow = true
      | .supplyAt mv => mv < 3000 := by
  cases cause <;> simp [Hold.counts, or_comm]

theorem exec_resetHold_of_counts {cause : HoldCause} {s : State} (counts : s.hold.counts cause = true) :
    exec (.resetHold cause) s = .next (resetHold (s.hold.joined cause) s) := by
  simp only [exec, execResetHold, counts, if_true]

theorem exec_resetHold_of_ignored {cause : HoldCause} {s : State} (ignored : s.hold.counts cause = false) :
    exec (.resetHold cause) s = .next s := by
  simp only [exec, execResetHold, ignored, Bool.false_eq_true, if_false]

/-- R197: a cause that counts holds the part, whatever held it before. -/
theorem joined_any (h : Hold) (cause : HoldCause) : (h.joined cause).any = true := by
  cases cause <;> simp [Hold.joined, Hold.any]

/-- R197, R198: while the part is held its outputs are in the failsafe state, whatever its blocks hold. -/
theorem pins_of_held {s : State} (held : s.held = true) :
    (∀ k phase, pinPwm s k phase = true) ∧ pinChinh s = false ∧ pinReady s = false ∧ pinAlarm s = false ∧
      pinHorn s = false := by
  simp [pinPwm, pinChinh, pinReady, pinAlarm, pinHorn, held]

/-! ### Leaving a hold (R126, R197) -/

/-- R197: a release while the other input holds the part ends its own input alone. -/
theorem exec_coldReset_of_other {release : Release} {s : State} (other : (s.hold.released release).any = true) :
    exec (.coldReset release) s = .next { s with hold := s.hold.released release } := by
  have held : s.held = true := by
    rw [held_iff]
    cases release with
    | resetHigh => exact .inr (by simpa [Hold.released, Hold.any] using other)
    | supplyInRange => exact .inl (by simpa [Hold.released, Hold.any] using other)
  rcases releaseHold_cases release s with ⟨free, _⟩ | ⟨_, _, e⟩ | ⟨_, last, _⟩
  · rw [held] at free; cases free
  · exact congrArg _ e
  · rw [other] at last; cases last

/-- R197: the release of an input that does not hold the part changes nothing. -/
theorem exec_coldReset_of_idle {release : Release} {s : State} (idle : s.hold.released release = s.hold) :
    exec (.coldReset release) s = .next s := by
  rcases releaseHold_cases release s with ⟨_, e⟩ | ⟨_, _, e⟩ | ⟨held, last, _⟩
  · exact congrArg _ e
  · rw [idle] at e; exact congrArg _ e
  · rw [idle] at last
    exact absurd (held.symm.trans last) (by simp)

/-- Settles O18: a hold by the causes that count, the commands that a held part refuses, and the four releases. -/
theorem resetHoldHoldsThePart : Obligations.ResetHoldHoldsThePart := by
  refine ⟨fun cause s counts => ?_, fun us s short supply => ?_, fun mv s inRange => ?_,
    fun c s held noRelease noHold => ?_, fun strap s => ⟨fun supply => ?_, fun low => ?_, fun low => ?_,
    fun supply => ?_⟩⟩
  · have held : (resetHold (s.hold.joined cause) s).held = true := joined_any _ _
    obtain ⟨pwm, chinh, ready, alarm, horn⟩ := pins_of_held held
    exact ⟨_, exec_resetHold_of_counts ((counts_iff _ _).2 counts), held, by cases cause <;> rfl, rfl, pwm, chinh,
      ready, alarm, horn, rfl, rfl⟩
  · exact exec_resetHold_of_ignored (by simp [Hold.counts, supply, short])
  · exact exec_resetHold_of_ignored (by simp [Hold.counts, inRange])
  · rcases exec_of_held c held with e | ⟨⟨r, is⟩ | ⟨k, is⟩, _⟩
    · exact e
    · exact absurd is (noRelease r)
    · exact absurd is (noHold k)
  · rw [exec_coldReset_of_other (by simp [Hold.released, Hold.any, supply]), Hold.released, supply]
  · rw [exec_coldReset_of_other (by simp [Hold.released, Hold.any, low]), Hold.released, low]
  · exact exec_coldReset_of_idle (by rw [Hold.released, ← low])
  · exact exec_coldReset_of_idle (by rw [Hold.released, ← supply])

end Sys2Proof.Machine
end

section
/-! Every alarm source is RAISED or ACKED exactly while its condition holds (R131, R140 to R142), after every
command. Settles StepKeepsSourcesCoherent. -/

namespace Sys2Proof.Machine

/-! ### The moves of one source record (R131, R140 to R142) -/

/-- R131: a record whose condition holds exactly when it is RAISED or ACKED. -/
def SourceRec.Coherent (r : SourceRec) : Prop :=
  r.condition = true ↔ (r.state = .raised ∨ r.state = .acked)

/-- R140, R141: a condition that arises finds its source NORMAL or RETURNED and raises it; one that clears finds it
RAISED or ACKED and takes it to NORMAL or RETURNED. -/
theorem SourceRec.Coherent.handed {r : SourceRec} (h : r.Coherent) (cls : AlarmClass) (holds : Bool) :
    (r.handed cls holds).Coherent := by
  obtain ⟨state, condition, notice⟩ := r
  cases condition with
  | false =>
    have quiet : state = .normal ∨ state = .returned := by
      cases state <;> simp [Coherent] at h ⊢
    rcases quiet with rfl | rfl <;> cases holds <;> simp [Coherent, SourceRec.handed]
  | true =>
    have raised : state = .raised ∨ state = .acked := h.1 rfl
    rcases raised with rfl | rfl <;> cases holds <;> cases cls <;> simp [Coherent, SourceRec.handed]

/-- R142: an acknowledgement goes from RAISED to ACKED or from RETURNED to NORMAL, and keeps the condition. -/
theorem SourceRec.Coherent.acknowledge {r : SourceRec} (h : r.Coherent) : r.acknowledge.Coherent := by
  obtain ⟨state, condition, notice⟩ := r
  cases state <;> simpa [Coherent, SourceRec.acknowledge, SourceRec.moveTo, stateAtAcknowledge] using h

/-! ### The operations on the sources -/

theorem sourcesCoherent_iff (s : State) : s.SourcesCoherent ↔ ∀ i : Fin 77, s.alarm.sources[i].Coherent :=
  ⟨fun h => h.holds, fun h => ⟨h⟩⟩

/-- The invariant reads no notice flag. -/
theorem State.SourcesCoherent.of_same {s t : State} (h : s.SourcesCoherent)
    (conditions : ∀ i : Fin 77, t.alarm.sources[i].condition = s.alarm.sources[i].condition)
    (states : ∀ i : Fin 77, t.alarm.sources[i].state = s.alarm.sources[i].state) : t.SourcesCoherent where
  holds i := by rw [conditions, states]; exact h.holds i

theorem State.SourcesCoherent.of_alarm {s t : State} (h : s.SourcesCoherent) (alarm : t.alarm = s.alarm) :
    t.SourcesCoherent :=
  h.of_same (fun _ => by rw [alarm]) fun _ => by rw [alarm]

/-- R131: sources that are handed a condition, or stand as they were, stay coherent. -/
theorem State.SourcesCoherent.of_handed {s t : State} (h : s.SourcesCoherent)
    (moves : ∀ i : Fin 77, t.alarm.sources[i] = s.alarm.sources[i] ∨
      ∃ cls holds, t.alarm.sources[i] = s.alarm.sources[i].handed cls holds) : t.SourcesCoherent :=
  (sourcesCoherent_iff t).2 fun i => by
    have record : s.alarm.sources[i].Coherent := h.holds i
    rcases moves i with e | ⟨cls, holds, e⟩ <;> rw [e]
    · exact record
    · exact record.handed cls holds

theorem sourcesCoherent_evalRelays {s : State} (h : s.SourcesCoherent) : (evalRelays s).SourcesCoherent :=
  ⟨h.holds⟩

theorem sourcesCoherent_handCondition (i : Fin 77) (holds : Bool) {s : State} (h : s.SourcesCoherent) :
    (handCondition i holds s).SourcesCoherent :=
  h.of_handed fun j => by
    rw [handCondition_source_val]
    split
    · exact .inr ⟨_, _, rfl⟩
    · exact .inl rfl

theorem sourcesCoherent_acknowledgeSources (sel : Fin 77 → Bool) {s : State} (h : s.SourcesCoherent) :
    (acknowledgeSources sel s).SourcesCoherent :=
  (sourcesCoherent_iff _).2 fun i => by
    have record : s.alarm.sources[i].Coherent := h.holds i
    rw [acknowledgeSources_source]
    split
    · exact record.acknowledge
    · exact record

/-! ### North arrivals (R142, R149, R164) -/

theorem sourcesCoherent_respondOwn (code : Byte) (result : ResultCode) (payload : List Byte) {s : State}
    (h : s.SourcesCoherent) : (respondOwn code result payload s).SourcesCoherent :=
  ⟨h.holds⟩

/-- R142: an ACKNOWLEDGE in range moves the sources it selects. -/
theorem sourcesCoherent_serveAcknowledge (fields : List Byte) {s : State} (h : s.SourcesCoherent) :
    (serveAcknowledge fields s).SourcesCoherent := by
  unfold serveAcknowledge
  repeat' split
  · exact sourcesCoherent_respondOwn _ _ _ (sourcesCoherent_evalRelays (sourcesCoherent_acknowledgeSources _ h))
  · exact sourcesCoherent_respondOwn _ _ _ h
  · exact sourcesCoherent_respondOwn _ _ _ h

/-- R142, R149: of the requests ACKNOWLEDGE alone moves sources. -/
theorem sourcesCoherent_serveRequest (payload : List Byte) {s : State} (h : s.SourcesCoherent) :
    (serveRequest payload s).SourcesCoherent := by
  by_cases acknowledge : ∃ fields, payload = codeAcknowledge :: fields
  · obtain ⟨fields, rfl⟩ := acknowledge
    exact sourcesCoherent_serveAcknowledge fields h
  · exact h.of_alarm (serveRequest_alarm (fun fields e => acknowledge ⟨fields, e⟩) s)

/-- R164: an arrival that clears SUPERVISOR LOST hands it over as not holding. -/
theorem sourcesCoherent_afterArrival {s : State} (h : s.SourcesCoherent) : s.afterArrival.SourcesCoherent := by
  by_cases device : s.control.device = .unconfigured
  · rw [afterArrival_unconfigured device]
    exact h.of_alarm rfl
  · rw [afterArrival_configured device]
    split
    · exact sourcesCoherent_evalRelays (sourcesCoherent_handCondition _ _ (h.of_alarm rfl))
    · exact h.of_alarm rfl

theorem sourcesCoherent_receiveNorth (t : Telegram) {s : State} (h : s.SourcesCoherent) :
    (receiveNorth t s).SourcesCoherent := by
  have arrived := sourcesCoherent_afterArrival h
  have reserved : (reserveReply s.afterArrival).SourcesCoherent := arrived.of_alarm rfl
  rcases receiveNorth_cases t s with ⟨_, e⟩ | ⟨_, _, e⟩ | ⟨_, _, _, ⟨_, e⟩ | ⟨_, _, e⟩ | ⟨_, _, e⟩⟩ <;>
    rw [e]
  · exact h
  · exact h.of_alarm rfl
  · exact arrived
  · unfold dispatchOwn
    split
    · exact sourcesCoherent_serveRequest _ reserved
    · exact reserved.of_alarm rfl
  · rw [dispatchNode_frame]
    exact reserved.of_alarm rfl

/-! ### The south loop (R25, R43) -/

/-- R43: an unclassified reply hands over UNCLASSIFIED. -/
theorem sourcesCoherent_takeUnclassified {s : State} (h : s.SourcesCoherent) :
    (takeUnclassified s).SourcesCoherent :=
  sourcesCoherent_evalRelays (sourcesCoherent_handCondition _ _ (h.of_alarm rfl))

theorem sourcesCoherent_takeReadingFrom (node status : Byte) (raw : Nat) {s : State} (h : s.SourcesCoherent) :
    (takeReadingFrom node status raw s).SourcesCoherent := by
  unfold takeReadingFrom
  split
  · rw [takeReading_frame]; exact h.of_alarm rfl
  · exact sourcesCoherent_takeUnclassified h

theorem sourcesCoherent_takeDriveStatusFrom (node : Byte) (st : DriveReply) {s : State} (h : s.SourcesCoherent) :
    (takeDriveStatusFrom node st s).SourcesCoherent := by
  unfold takeDriveStatusFrom
  split
  · rw [takeDriveStatus_frame]; exact h.of_alarm rfl
  · exact sourcesCoherent_takeUnclassified h

/-- A reply keeps the sources coherent if what it is handed to does. -/
theorem sourcesCoherent_receiveSouth (t : Telegram) {take : Transaction → State → State} {s : State}
    (h : s.SourcesCoherent) (keeps : ∀ tr u, u.SourcesCoherent → (take tr u).SourcesCoherent) :
    (receiveSouth t take s).SourcesCoherent := by
  rcases receiveSouth_cases t take s with ⟨_, e⟩ | ⟨_, _, tr, _, _, e⟩ | ⟨_, _, e⟩ <;> rw [e]
  · exact h
  · exact keeps tr s.afterReply (h.of_alarm rfl)
  · exact h.of_alarm rfl

/-! ### The timers and the north transmitter (R21, R134, R135, R145, R165) -/

/-- R21, R134: a timer that expires in an open cycle hands over SCAN OVERRUN. -/
theorem sourcesCoherent_timerExpiry {s : State} (h : s.SourcesCoherent) : (timerExpiry s).SourcesCoherent := by
  unfold timerExpiry
  repeat' split
  · exact sourcesCoherent_evalRelays (sourcesCoherent_handCondition _ _ (h.of_alarm rfl))
  · exact h.of_alarm rfl
  · exact h

/-- R135, R165: the expiry of the silence timer hands over SUPERVISOR LOST. -/
theorem sourcesCoherent_silenceExpiry {s : State} (h : s.SourcesCoherent) :
    (silenceExpiry s).SourcesCoherent := by
  rcases silenceExpiry_cases s with ⟨_, _, e⟩ | ⟨_, e⟩ <;> rw [e]
  · have dropped : (dropSupervisorWork s).SourcesCoherent := h.of_alarm (dropSupervisorWork_alarm s)
    exact sourcesCoherent_evalRelays (sourcesCoherent_handCondition _ _ dropped)
  · exact h

/-- R145: a notice that is sent clears its source's flag alone. -/
theorem sourcesCoherent_northChoiceStep {s : State} (h : s.SourcesCoherent) :
    (northChoiceStep s).SourcesCoherent := by
  refine h.of_same (fun i => ?_) (northChoiceStep_state s)
  rcases northChoiceStep_cases s with ⟨_, c, _, e⟩ | ⟨_, e⟩ <;> rw [e]
  exact serveClass_condition c (updateCredits c s) i

/-! ### The close, the end of a purge and the activation (R20, R21, R123, R132, R186, R187) -/

/-- R21, R44, R132: the work of a close hands over the zone conditions, SCAN OVERRUN and UNCLASSIFIED. -/
theorem sourcesCoherent_closeWork {s : State} (h : s.SourcesCoherent) : (closeWork s).SourcesCoherent :=
  h.of_handed fun i => by
    rw [closeWork_source]
    repeat' split
    · exact .inr ⟨_, _, rfl⟩
    · exact .inr ⟨_, _, rfl⟩
    · exact .inl rfl

/-- R123: the end of a purge hands over UNCONFIGURED and PURGE. -/
theorem sourcesCoherent_purgeExpiry {s : State} (h : s.SourcesCoherent) : (purgeExpiry s).SourcesCoherent :=
  h.of_handed fun i => by
    rw [purgeExpiry_source]
    split
    · exact .inr ⟨_, _, rfl⟩
    · exact .inl rfl

/-- R119, R186: a first activation hands over UNCONFIGURED and PURGE. -/
theorem sourcesCoherent_firstActivation {s : State} (h : s.SourcesCoherent) :
    (firstActivation s).SourcesCoherent :=
  h.of_handed fun i => by
    rw [firstActivation_source]
    repeat' split
    · exact .inr ⟨_, _, rfl⟩
    · exact .inr ⟨_, _, rfl⟩
    · exact .inl rfl

/-- R187: a swap at a close evaluates the relays and moves no source. -/
theorem sourcesCoherent_swapAtClose {s : State} (h : s.SourcesCoherent) : (swapAtClose s).SourcesCoherent := by
  rw [swapAtClose_frame]
  exact ⟨h.holds⟩

/-- R20, R21, R121, R187: the parts of a close, one after the other. -/
theorem sourcesCoherent_closeCycle {s : State} (h : s.SourcesCoherent) : (closeCycle s).SourcesCoherent := by
  have worked := sourcesCoherent_closeWork h
  have swapped : (closeSwap (closeWork s)).SourcesCoherent := by
    rcases closeSwap_cases (closeWork s) with ⟨_, e⟩ | ⟨_, e⟩ <;> rw [e]
    · exact sourcesCoherent_swapAtClose worked
    · exact worked
  have ended : (closePurge (closeSwap (closeWork s))).SourcesCoherent := by
    rcases closePurge_cases (closeSwap (closeWork s)) with ⟨_, _, e⟩ | ⟨_, e⟩ <;> rw [e]
    · exact sourcesCoherent_purgeExpiry swapped
    · exact swapped
  unfold closeCycle
  split
  · exact ended.of_alarm (cycleStart_alarm _)
  · exact ended

/-- R183 to R186: an end of the check without a first activation moves no source. -/
theorem sourcesCoherent_checkEndStep {s : State} (h : s.SourcesCoherent) : (checkEndStep s).SourcesCoherent := by
  unfold checkEndStep checkEnd
  repeat' split
  · exact h.of_alarm rfl
  · exact h.of_alarm rfl
  · exact sourcesCoherent_firstActivation h
  · exact h.of_alarm rfl
  · exact h

/-! ### The resets (R126, R127, R152, R153) -/

/-- R153: a warm reset leaves one source RAISED with its condition holding, and the others NORMAL. -/
theorem sourcesCoherent_warmReset (s : State) : (warmReset s).SourcesCoherent where
  holds i := by
    rw [warmReset_source]
    by_cases raised : i.val = if s.banks.active = none then 72 else 73 <;> simp [raised]

/-- R126: in a hold every source is NORMAL and no condition holds. -/
theorem sourcesCoherent_resetHold (k : Hold) (s : State) : (resetHold k s).SourcesCoherent where
  holds i := by simp [resetHold, AlarmUnit.initial, SourceRec.initial]

/-- R126, R152: a release leaves the sources, or is a cold reset. -/
theorem sourcesCoherent_releaseHold (release : Release) {s : State} (h : s.SourcesCoherent) :
    (releaseHold release s).SourcesCoherent := by
  rcases releaseHold_cases release s with ⟨_, e⟩ | ⟨_, _, e⟩ | ⟨_, _, e⟩ <;> rw [e]
  · exact h
  · exact h.of_alarm rfl
  · exact reset_sourcesCoherent.of_alarm rfl

/-! ### All commands -/

/-- R131: every command keeps the sources coherent, a held part's too. -/
theorem effect_keeps_sourcesCoherent (c : Instr) {s : State} (h : s.SourcesCoherent) :
    (effect c s).SourcesCoherent := by
  cases c with
  | coldReset r => exact sourcesCoherent_releaseHold r h
  | resetHold k =>
    simp only [effect]
    split
    · exact sourcesCoherent_resetHold _ s
    · exact h
  | warmReset =>
    simp only [effect]
    split
    · exact sourcesCoherent_warmReset s
    · exact h
  | tableWrite | tableRead | activate | acknowledge | status | readChannels | readZone | readFan | restart
  | driveSet | command | dispatchBadRequest | unknownRequest => exact sourcesCoherent_receiveNorth _ h
  | reading => exact sourcesCoherent_receiveSouth _ h fun _ _ hu => sourcesCoherent_takeReadingFrom _ _ _ hu
  | driveStatus => exact sourcesCoherent_receiveSouth _ h fun _ _ hu => sourcesCoherent_takeDriveStatusFrom _ _ hu
  | answer =>
    exact sourcesCoherent_receiveSouth _ h fun _ _ hu => by rw [takeAnswer_frame]; exact hu.of_alarm rfl
  | replyWindowExpiry receiving =>
    rcases windowExpiry_cases receiving s with ⟨tr, _, _, e⟩ | ⟨_, e⟩ <;> simp only [effect, e]
    · rw [deliverMiss_frame]; exact h.of_alarm rfl
    · exact h
  | localConversionComplete sample =>
    rcases conversionStep_cases sample s with ⟨i, rest, _, e⟩ | ⟨_, e⟩ <;> simp only [effect, e]
    · rw [takeReading_frame]; exact h.of_alarm rfl
    · exact h
  | cycleTimerExpiry => exact sourcesCoherent_timerExpiry h
  | cycleClose =>
    simp only [effect]
    split
    · exact sourcesCoherent_closeCycle h
    · exact h
  | fanDrive =>
    rcases fanDriveStep_cases s with ⟨_, f, _, e⟩ | ⟨_, _, e⟩ | ⟨_, e⟩ <;> simp only [effect, e]
    · exact h.of_alarm (by simp [openFanDrive])
    · exact h.of_alarm (clearStrayFlags_alarm s)
    · exact h
  | relayTransaction =>
    rcases relayStep_cases s with ⟨_, entry, _, e⟩ | ⟨_, e⟩ <;> simp only [effect, e]
    · exact h.of_alarm (by simp [openRelay])
    · exact h
  | scanTransaction =>
    rcases scanStep_cases s with ⟨_, i, _, e⟩ | ⟨_, e⟩ <;> simp only [effect, e]
    · exact h.of_alarm (by simp [openScan])
    · exact h
  | southRateChange =>
    rcases southRateStep_cases s with ⟨_, _, _, e⟩ | ⟨_, e⟩ <;> simp only [effect, e] <;> exact h.of_alarm rfl
  | northChoice => exact sourcesCoherent_northChoiceStep h
  | northTransmissionEnd receiving => simp only [effect]; rw [northSent_frame]; exact h.of_alarm rfl
  | activationCheckEnd => exact sourcesCoherent_checkEndStep h
  | purgeTimerExpiry =>
    rcases purgeTimerStep_cases s with ⟨_, _, e⟩ | e <;> simp only [effect, e]
    · exact sourcesCoherent_purgeExpiry h
    · exact h
  | supervisorSilenceExpiry => exact sourcesCoherent_silenceExpiry h
  | tachPulse | pwmPeriodEnd => exact h.of_alarm rfl
  | lineIdle line => simp only [effect]; rw [idleStep_frame]; exact h.of_alarm rfl
  | telegramAbandoned line cause =>
    rcases abandonStep_cases line cause s with ⟨_, e⟩ | ⟨_, e⟩ <;> simp only [effect, e]
    · rw [endReception_frame]; exact h.of_alarm rfl
    · exact h
  | discardedTelegram line chars =>
    rcases discardStep_cases line chars s with ⟨_, _, e⟩ | ⟨_, e⟩ <;> simp only [effect, e]
    · rw [endReception_frame]; exact h.of_alarm rfl
    · exact h
  | southTransmissionEnd =>
    rcases southSent_cases s with ⟨_, e⟩ | ⟨_, e⟩ <;> simp only [effect, e] <;> exact h.of_alarm rfl

/-- Settles O8, by the case split over the commands in `effect_keeps_sourcesCoherent`. -/
theorem stepKeepsSourcesCoherent : Obligations.StepKeepsSourcesCoherent :=
  step_keeps (fun _ _ h => ⟨h.holds⟩) fun c _ _ h => effect_keeps_sourcesCoherent c h

end Sys2Proof.Machine
end

section
/-! ACKNOWLEDGE and STATUS, which read the alarm sources as the arrival leaves them. Settles
AcknowledgeMovesSelectedSources and StatusReturnsTheRecord. -/

namespace Sys2Proof.Machine

/-! ### Acknowledged sources (R142, R149) -/

/-- R142, R143: an acknowledged record. -/
theorem SourceRec.acknowledge_eq (r : SourceRec) :
    r.acknowledge =
      if r.state = .raised then { r with state := .acked, notice := true }
      else if r.state = .returned then { r with state := .normal, notice := true }
      else r := by
  obtain ⟨state, condition, notice⟩ := r
  cases state <;> simp [SourceRec.acknowledge, SourceRec.moveTo, stateAtAcknowledge]

/-- R149: an acknowledgement changes the records that await one. -/
theorem SourceRec.ackChanges_eq (r : SourceRec) :
    r.ackChanges = (r.state == .raised || r.state == .returned) := by
  obtain ⟨state, condition, notice⟩ := r
  cases state <;> rfl

/-- R149: the selections in range, by the sources they name. -/
theorem ackSelection_of_inRange {p : Policy} {selector value : Byte}
    (inRange : (selector = 0#8 ∧ value.toNat ≤ 76) ∨ (selector = 1#8 ∧ value.toNat ≤ 3)) :
    ∃ sel, ackSelection p selector value = some sel ∧ ∀ i, sel i = true ↔
      (selector = 0#8 ∧ i.val = value.toNat) ∨ (selector = 1#8 ∧ p.level i = value.toNat) := by
  rcases inRange with ⟨rfl, bound⟩ | ⟨rfl, bound⟩
  · exact ⟨_, by rw [ackSelection, if_pos rfl, if_pos bound], fun i => by simp⟩
  · exact ⟨_, by rw [ackSelection, if_neg (by decide), if_pos rfl, if_pos bound], fun i => by simp⟩

/-- R149: a selection out of range selects nothing. -/
theorem ackSelection_of_outOfRange {p : Policy} {selector value : Byte}
    (outside : (selector = 0#8 ∧ 76 < value.toNat) ∨ (selector = 1#8 ∧ 3 < value.toNat) ∨
      (selector ≠ 0#8 ∧ selector ≠ 1#8)) : ackSelection p selector value = none := by
  rcases outside with ⟨rfl, bound⟩ | ⟨rfl, bound⟩ | ⟨notSource, notLevel⟩
  · rw [ackSelection, if_pos rfl, if_neg (by omega)]
  · rw [ackSelection, if_neg (by decide), if_pos rfl, if_neg (by omega)]
  · rw [ackSelection, if_neg notSource, if_neg notLevel]

theorem serveAcknowledge_of_selection {s : State} {selector value : Byte} {sel : Fin 77 → Bool}
    (selection : ackSelection s.policy selector value = some sel) :
    serveAcknowledge [selector, value] s =
      respondOwn codeAcknowledge .done (u8 (countAckChanges sel s)) (evalRelays (acknowledgeSources sel s)) := by
  simp only [serveAcknowledge, selection]

theorem serveAcknowledge_of_noSelection {s : State} {selector value : Byte}
    (selection : ackSelection s.policy selector value = none) :
    serveAcknowledge [selector, value] s = respondOwn codeAcknowledge .badRequest [] s := by
  simp only [serveAcknowledge, selection]

/-- The policy in force stands through the arrival of a request. -/
theorem reserved_afterArrival_policy (s : State) : (reserveReply s.afterArrival).policy = s.policy := by
  rw [reserveReply_policy, State.policy, State.policy, afterArrival_frame]

/-- R142, R149: an ACKNOWLEDGE in range moves the sources as the arrival leaves them, and is answered with the number
of changes among them. -/
theorem exec_acknowledge_of_selection {s : State} (open_ : s.northOpen) (free : s.replyFree) {selector value : Byte}
    {sel : Fin 77 → Bool} (selection : ackSelection s.policy selector value = some sel) :
    exec (.acknowledge [selector, value]) s =
      .next { s.afterArrival.answered s.address codeAcknowledge .done (u8 (countAckChanges sel s.afterArrival)) with
        alarm := (evalRelays (acknowledgeSources sel s.afterArrival)).alarm } := by
  have served := serveAcknowledge_of_selection (s := reserveReply s.afterArrival) (value := value)
    ((congrArg (ackSelection · selector value) (reserved_afterArrival_policy s)).trans selection)
  refine (live_receiveRequest open_ free codeAcknowledge (by simp)).trans (congrArg _ (served.trans ?_))
  have address := afterArrival_address s
  ext1 <;> simp [respondOwn, respond, State.answered, countAckChanges, reserveReply, address, acknowledgeSources,
    State.policy]

/-- R149: the count of an ACKNOWLEDGE is that of the selected sources that await one. -/
theorem countAckChanges_eq (sel : Fin 77 → Bool) (s : State) :
    countAckChanges sel s = (List.finRange 77).countP fun i =>
      sel i && (s.alarm.sources[i].state == .raised || s.alarm.sources[i].state == .returned) := by
  simp only [countAckChanges, SourceRec.ackChanges_eq]

/-- Settles O25: a selection in range is acknowledged, one out of range is refused. -/
theorem acknowledgeMovesSelectedSources : Obligations.AcknowledgeMovesSelectedSources := by
  intro s selector value open_ free
  refine ⟨fun inRange => ?_, fun outside => ?_⟩
  · obtain ⟨sel, selection, selected⟩ := ackSelection_of_inRange (p := s.policy) inRange
    have taken := exec_acknowledge_of_selection open_ free selection
    rw [countAckChanges_eq] at taken
    refine ⟨_, sel, selected, taken, rfl, fun i => ?_,
      relaysFollow_of_same (evalRelays_follow (acknowledgeSources sel s.afterArrival)) rfl rfl⟩
    change (evalRelays (acknowledgeSources sel s.afterArrival)).alarm.sources[i] = _
    rw [evalRelays_sources, acknowledgeSources_source, SourceRec.acknowledge_eq]
    by_cases chosen : sel i = true <;> simp [chosen]
  · have refused : ackSelection (reserveReply s.afterArrival).policy selector value = none := by
      rw [reserved_afterArrival_policy]
      exact ackSelection_of_outOfRange outside
    exact live_receiveRequest_of_served open_ free (by simp) (serveAcknowledge_of_noSelection refused)

/-! ### The status record (R151, R174, R181) -/

/-- R181: the zones' bytes, zone by zone. -/
theorem flatMap_zoneStatus (zones : Vector ZoneRec 8) :
    (zones.toList.flatMap fun r => u8 (zoneStatusByte r)) = (List.finRange 8).map fun z => BitVec.ofNat 8
      (bandCode zones[z].effective + (if zones[z].blind then 4 else 0) +
        (if zones[z].spill then 8 else 0) + (if zones[z].shortfall then 16 else 0)) := by
  have records : zones.toList = (List.finRange 8).map fun z => zones[z] := by
    apply List.ext_getElem <;> simp
  rw [records, List.flatMap_map]
  exact List.flatMap_pure_eq_map _ _

theorem statusRecord_length (s : State) : (statusRecord s).length = 25 := by
  simp [statusRecord, levelSummary, u8, u16]

/-- R174: what STATUS reports of the other blocks stands through its arrival, and its own reply entry is taken. -/
theorem reserved_afterArrival_status (s : State) :
    (reserveReply s.afterArrival).control = s.control ∧ (reserveReply s.afterArrival).banks = s.banks ∧
      (reserveReply s.afterArrival).scan = s.scan ∧ (reserveReply s.afterArrival).relayQueue = s.relayQueue ∧
      (reserveReply s.afterArrival).north.reports = s.north.reports ∧
      (reserveReply s.afterArrival).north.freeReplies = 3 - (s.north.reserved + s.north.built.length) := by
  have free : 4 - (s.north.reserved + 1 + s.north.built.length) = 3 - (s.north.reserved + s.north.built.length) := by
    omega
  rw [afterArrival_frame]
  exact ⟨rfl, rfl, rfl, rfl, rfl, free⟩

theorem serveStatus_of_fields {fields : List Byte} (nonempty : fields ≠ []) (s : State) :
    serveStatus fields s = respondOwn codeStatus .badRequest [] s := by
  cases fields with
  | nil => exact absurd rfl nonempty
  | cons => rfl

theorem deviceCode_byte (d : DeviceState) :
    BitVec.ofNat 8 (deviceCode d) = match d with | .unconfigured => 0#8 | .purge => 1#8 | .run => 2#8 := by
  cases d <;> rfl

theorem bankCode_byte (b : Option BankId) :
    BitVec.ofNat 8 (bankCode b) = match b with | none => 0#8 | some .a => 1#8 | some .b => 2#8 := by
  rcases b with _ | _ | _ <;> rfl

theorem managerCode_byte (m : ManagerState) :
    BitVec.ofNat 8 (managerCode m) = match m with | .idle => 0#8 | .checking _ => 1#8 | .swapPending => 2#8 := by
  cases m <;> rfl

/-- Settles O26: the record is that of the state in which STATUS is served, its reply entry reserved. -/
theorem statusReturnsTheRecord : Obligations.StatusReturnsTheRecord := by
  intro s open_ free
  obtain ⟨_, zones, alloc⟩ := reserved_afterArrival_records s
  obtain ⟨control, banks, scan, relayQueue, reports, replies⟩ := reserved_afterArrival_status s
  refine ⟨⟨statusRecord (reserveReply s.afterArrival), statusRecord_length _,
    live_receiveRequest_of_served open_ free (by simp) rfl, ?_⟩,
    fun fields nonempty fit => live_receiveRequest_of_served open_ free fit (serveStatus_of_fields nonempty _)⟩
  rw [statusRecord, flatMap_zoneStatus, zones, alloc, control, banks, scan, relayQueue, reports, replies]
  simp only [levelSummary, reserved_afterArrival_policy, reserveReply_alarm, SourceRec.awaitsAck, boolByte, u8, u16,
    deviceCode_byte, bankCode_byte, managerCode_byte, List.flatMap_cons, List.flatMap_nil, List.append_assoc,
    List.cons_append, List.nil_append, List.append_nil] <;>
    rfl

end Sys2Proof.Machine
end

section
/-! The reply entries, each reserved for one telegram that is owed a RESPONSE, and the bounds of the queues and
the credits (R158, R160 to R162, R165, R170, R172, R176), kept by every command. Settles
StepKeepsQueuesAccounted. -/

namespace Sys2Proof.Machine

/-! ### What is owed -/

/-- R172: a confirmed relay that is open is owed one RESPONSE. -/
def Purpose.owed : Purpose → Nat
  | .relayConfirmed _ => 1
  | .scanPoll => 0
  | .scanQuery => 0
  | .fanDrive => 0
  | .relayPosted => 0

/-- R176, R182: an activation in progress is owed one RESPONSE. -/
def ManagerState.owed : ManagerState → Nat
  | .idle => 0
  | .checking _ => 1
  | .swapPending => 1

/-- The three holders of reserved entries: the relay queue, the transaction slot and the Bank Manager. -/
theorem owed_eq (s : State) :
    s.owed = confirmedCount s.relayQueue + (s.scan.slot.map (·.purpose.owed)).getD 0 + s.banks.state.owed := by
  have slot : (match s.scan.slot with
      | some { purpose := .relayConfirmed _, .. } => 1
      | _ => 0) = (s.scan.slot.map (·.purpose.owed)).getD 0 := by
    rcases s.scan.slot with _ | ⟨_, _ | _ | _ | _ | _, _, _⟩ <;> rfl
  have manager : (match s.banks.state with
      | .idle => 0
      | _ => 1) = s.banks.state.owed := by
    cases s.banks.state <;> rfl
  rw [confirmedCount, List.countP_eq_length_filter, ← slot, ← manager]
  rfl

theorem ManagerState.owed_of_busy {m : ManagerState} (busy : m ≠ .idle) : m.owed = 1 := by
  cases m with
  | idle => exact absurd rfl busy
  | checking | swapPending => rfl

/-- R24: a transaction that expects no ANSWER is owed no RESPONSE. -/
theorem Purpose.owed_of_expects {p : Purpose} (other : p.expects ≠ .answer) : p.owed = 0 := by
  cases p with
  | relayConfirmed => exact absurd rfl other
  | scanPoll | scanQuery | fanDrive | relayPosted => rfl

/-! ### The account, with entries in hand -/

/-- R158: no wait credit passes 7. -/
def Credits.Bounded (c : Credits) : Prop := ∀ k : NorthClass, c.of k ≤ 7

/-- The queues accounted while a command is at work: it has `inHand` reserved entries that no telegram holds any
longer or yet. -/
structure State.Accounted (inHand : Nat) (s : State) : Prop where
  reserved : s.north.reserved = s.owed + inHand
  replies : s.north.reserved + s.north.built.length ≤ 4
  reports : s.north.reports.length ≤ 24
  relays : s.relayQueue.length ≤ 4
  credits : s.north.credits.Bounded

/-- Between commands no entry is in hand. -/
theorem queuesAccounted_iff (s : State) : s.QueuesAccounted ↔ s.Accounted 0 where
  mp h :=
    { h with
      credits := fun
        | .alert => h.alertCredit
        | .response => h.responseCredit
        | .report => h.reportCredit }
  mpr h :=
    { h with
      alertCredit := h.credits .alert
      responseCredit := h.credits .response
      reportCredit := h.credits .report }

/-- No entry is reserved, handed over or built, and the REPORTs and the credits stay within their bounds. A field
that stands by definition need not be given. -/
structure SameAccount (s t : State) : Prop where
  reserved : t.north.reserved = s.north.reserved := by rfl
  relayQueue : t.relayQueue = s.relayQueue := by rfl
  slot : t.scan.slot.map (·.purpose.owed) = s.scan.slot.map (·.purpose.owed) := by rfl
  manager : t.banks.state = s.banks.state := by rfl
  built : t.north.built.length ≤ s.north.built.length := by exact le_rfl
  reports : s.north.reports.length ≤ 24 → t.north.reports.length ≤ 24 := by exact id
  credits : s.north.credits.Bounded → t.north.credits.Bounded := by exact id

theorem State.Accounted.of_same {n : Nat} {s t : State} (h : s.Accounted n) (same : SameAccount s t) :
    t.Accounted n where
  reserved := by
    rw [same.reserved, h.reserved, owed_eq, owed_eq, same.relayQueue, same.slot, same.manager]
  replies := by
    have := h.replies
    have := same.built
    rw [same.reserved]
    omega
  reports := same.reports h.reports
  relays := by rw [same.relayQueue]; exact h.relays
  credits := same.credits h.credits

theorem sameAccount_of_eq {s t : State} (reserved : t.north.reserved = s.north.reserved)
    (built : t.north.built = s.north.built) (reports : t.north.reports = s.north.reports)
    (credits : t.north.credits = s.north.credits) (relayQueue : t.relayQueue = s.relayQueue)
    (slot : t.scan.slot = s.scan.slot) (manager : t.banks.state = s.banks.state) : SameAccount s t where
  reserved := reserved
  relayQueue := relayQueue
  slot := by rw [slot]
  manager := manager
  built := by rw [built]
  reports := by rw [reports]; exact id
  credits := by rw [credits]; exact id

theorem sameAccount_clearStrayFlags (s : State) : SameAccount s (clearStrayFlags s) := by
  apply sameAccount_of_eq <;> simp

theorem sameAccount_setFan (f : Fin 16) (r : FanRec) (s : State) : SameAccount s (setFan f r s) :=
  sameAccount_of_eq rfl rfl rfl rfl rfl rfl rfl

/-! ### Entries taken in hand and given away -/

/-- R161: an arrival takes a free entry in hand. -/
theorem State.Accounted.reserves {n : Nat} {s : State} (h : s.Accounted n) (free : s.replyFree) :
    (reserveReply s).Accounted (n + 1) :=
  { h with
    reserved := congrArg (· + 1) h.reserved
    replies := by
      show s.north.reserved + 1 + s.north.built.length ≤ 4
      omega }

/-- R162: a RESPONSE is built in an entry in hand. -/
theorem State.Accounted.builds {n : Nat} {s : State} (h : s.Accounted (n + 1)) (r : Response) :
    (buildResponse r s).Accounted n :=
  { h with
    reserved := by
      have := h.reserved
      show s.north.reserved - 1 = s.owed + n
      omega
    replies := by
      have := h.reserved
      have := h.replies
      rw [buildResponse_north, List.length_append, List.length_singleton]
      show s.north.reserved - 1 + _ ≤ 4
      omega }

/-- R182: an ACTIVATE that is taken gives its entry to the activation. -/
theorem State.Accounted.checks {n : Nat} {s : State} (h : s.Accounted (n + 1)) (idle : s.banks.state = .idle)
    (expected : Crc) : { s with banks := { s.banks with state := .checking expected } : State }.Accounted n :=
  { h with
    reserved := by
      rw [h.reserved, owed_eq, owed_eq, idle]
      simp only [ManagerState.owed]
      omega }

/-- R185 to R187, R189: an activation that ends leaves its entry in hand. -/
theorem State.Accounted.ends {n : Nat} {s : State} (h : s.Accounted n) (busy : s.banks.state ≠ .idle) :
    { s with banks := { s.banks with state := .idle } : State }.Accounted (n + 1) :=
  { h with
    reserved := by
      rw [h.reserved, owed_eq, owed_eq, ManagerState.owed_of_busy busy]
      simp only [ManagerState.owed]
      omega }

/-- R170: a confirmed entry that joins the relay queue takes one in hand, a posted one none. -/
theorem State.Accounted.joins {n : Nat} {s : State} {e : RelayEntry} (h : s.Accounted (n + confirmedCount [e]))
    (room : s.relayQueue.length < 4) : (joinRelay e s).Accounted n :=
  { h with
    reserved := by
      have count : confirmedCount (s.relayQueue ++ [e]) = confirmedCount s.relayQueue + confirmedCount [e] :=
        List.countP_append
      rw [joinRelay_north, h.reserved, owed_eq, owed_eq, joinRelay_relayQueue, count, joinRelay_scan,
        joinRelay_banks]
      omega
    relays := by
      rw [joinRelay_relayQueue, List.length_append, List.length_singleton]
      omega }

/-- R25, R26: a transaction that closes leaves the entry that it held in hand. -/
theorem State.Accounted.closes {n : Nat} {s : State} {tr : Transaction} (h : s.Accounted n)
    (slot : s.scan.slot = some tr) : (closeSlot s).Accounted (n + tr.purpose.owed) :=
  { h with
    reserved := by
      rw [closeSlot_north, h.reserved, owed_eq, owed_eq, slot, closeSlot_relayQueue, closeSlot_scan,
        closeSlot_banks]
      simp only [Option.map_some, Option.map_none, Option.getD_some, Option.getD_none]
      omega }

/-- R23, R30: a transaction that opens takes what it is owed in hand. -/
theorem State.Accounted.opens {n : Nat} {s : State} {purpose : Purpose} (h : s.Accounted (n + purpose.owed))
    (idle : s.scan.slot = none) (t : Telegram) (windowMs : Nat) :
    (openTransaction t purpose windowMs s).Accounted n :=
  { h with
    reserved := by
      rw [openTransaction_north, h.reserved, owed_eq, owed_eq, idle, openTransaction_relayQueue,
        openTransaction_scan, openTransaction_banks]
      simp only [Option.map_some, Option.map_none, Option.getD_some, Option.getD_none]
      omega }

/-- R30: the head that leaves the relay queue leaves its entry in hand, if it is confirmed. -/
theorem State.Accounted.pops {n : Nat} {s : State} {e : RelayEntry} {rest : List RelayEntry} (h : s.Accounted n)
    (queue : s.relayQueue = e :: rest) :
    { s with relayQueue := s.relayQueue.tail : State }.Accounted (n + (relayPurpose e).owed) :=
  { h with
    reserved := by
      have head : confirmedCount (e :: rest) = confirmedCount rest + (relayPurpose e).owed := by
        cases mode : e.mode <;> simp [confirmedCount, relayPurpose, Purpose.owed, mode]
      rw [h.reserved, owed_eq, owed_eq, queue, head]
      simp only [List.tail_cons]
      omega
    relays := by
      have := h.relays
      simp only [List.length_tail]
      omega }

/-- R173: after a reset nothing is reserved and every queue is empty. -/
theorem accounted_of_reset {s : State} {silence : SilenceTimer}
    (north : s.north = { NorthLink.initial with silence := silence }) (relayQueue : s.relayQueue = [])
    (slot : s.scan.slot = none) (idle : s.banks.state = .idle) : s.Accounted 0 where
  reserved := by rw [owed_eq, north, relayQueue, slot, idle]; rfl
  replies := by rw [north]; exact Nat.zero_le 4
  reports := by rw [north]; exact Nat.zero_le 24
  relays := by rw [relayQueue]; exact Nat.zero_le 4
  credits k := by rw [north]; cases k <;> exact Nat.zero_le 7

/-! ### Requests (R177 to R182, R189) -/

/-- R189: an activation that is aborted is answered in its own entry. -/
theorem accounted_abortActivation {n : Nat} {s : State} (h : s.Accounted n) : (abortActivation s).Accounted n := by
  unfold abortActivation
  split
  · exact h
  · next busy => exact (h.ends busy).builds _

theorem accounted_serveTableWrite (fields : List Byte) {n : Nat} {s : State} (h : s.Accounted (n + 1)) :
    (serveTableWrite fields s).Accounted n := by
  have written : ∀ start bytes, { s with banks := writeStandby start bytes s.banks : State }.Accounted (n + 1) :=
    fun start bytes => h.of_same { manager := writeStandby_state start bytes s.banks }
  unfold serveTableWrite
  repeat' split
  · exact h.builds _
  · exact h.builds _
  · exact h.builds _
  · exact (written _ _).builds _
  · exact h.builds _

theorem accounted_serveActivate (fields : List Byte) {n : Nat} {s : State} (h : s.Accounted (n + 1)) :
    (serveActivate fields s).Accounted n := by
  unfold serveActivate
  repeat' split
  · exact h.builds _
  · next free => exact h.checks (by_contra fun busy => free (.inl busy)) _
  · exact h.builds _

theorem accounted_serveAcknowledge (fields : List Byte) {n : Nat} {s : State} (h : s.Accounted (n + 1)) :
    (serveAcknowledge fields s).Accounted n := by
  have moved : ∀ sel, (evalRelays (acknowledgeSources sel s)).Accounted (n + 1) := fun _ =>
    h.of_same (by apply sameAccount_of_eq <;> simp)
  unfold serveAcknowledge
  repeat' split
  · exact (moved _).builds _
  · exact h.builds _
  · exact h.builds _

/-- R179 to R181: a reader answers, and does nothing else. -/
theorem accounted_serveReaders {n : Nat} {s : State} (h : s.Accounted (n + 1)) :
    (∀ fields, (serveTableRead fields s).Accounted n) ∧ (∀ fields, (serveStatus fields s).Accounted n) ∧
      (∀ fields, (serveReadChannels fields s).Accounted n) ∧ (∀ fields, (serveReadZone fields s).Accounted n) ∧
      (∀ fields, (serveReadFan fields s).Accounted n) := by
  unfold serveTableRead serveStatus serveReadChannels serveReadZone serveReadFan
  refine ⟨?_, ?_, ?_, ?_, ?_⟩
  all_goals
    intro fields
    repeat' split
    all_goals exact h.builds _

theorem accounted_serveRestart (fields : List Byte) {n : Nat} {s : State} (h : s.Accounted (n + 1)) :
    (serveRestart fields s).Accounted n := by
  unfold serveRestart
  split
  · exact ((accounted_abortActivation h).of_same {}).builds _
  · exact h.builds _

/-- R162, R177: a request gives away the entry that its arrival reserved. -/
theorem accounted_serveRequest {payload : List Byte} (nonempty : payload ≠ []) {n : Nat} {s : State}
    (h : s.Accounted (n + 1)) : (serveRequest payload s).Accounted n := by
  obtain ⟨tableRead, status, readChannels, readZone, readFan⟩ := accounted_serveReaders h
  unfold serveRequest
  repeat' split
  · exact absurd rfl nonempty
  · exact accounted_serveTableWrite _ h
  · exact tableRead _
  · exact accounted_serveActivate _ h
  · exact accounted_serveAcknowledge _ h
  · exact status _
  · exact readChannels _
  · exact readZone _
  · exact readFan _
  · exact accounted_serveRestart _ h
  · exact h.builds _

/-! ### Arrivals (R161, R168 to R171) -/

/-- R169: a candidate passes the screening only while the relay queue has room. -/
theorem room_of_pass {s : State} {node : Byte} {kind : RelayKind} {mode : RelayMode}
    (pass : screenVerdict s node kind = .pass mode) : s.relayQueue.length < 4 := by
  unfold screenVerdict at pass
  repeat' split at pass
  case h_2.isFalse.isFalse.isFalse => omega
  all_goals cases pass

theorem accounted_screenCandidate (node : Byte) (kind : RelayKind) (payload : List Byte) {n : Nat} {s : State}
    (h : s.Accounted (n + 1)) : (screenCandidate node kind payload s).Accounted n := by
  unfold screenCandidate
  split
  · exact h.builds _
  · next pass =>
    exact (State.Accounted.joins (n := n + 1) (e := { node, kind, payload, mode := .posted }) h
      (room_of_pass pass)).builds _
  · next pass =>
    exact State.Accounted.joins (e := { node, kind, payload, mode := .confirmed }) h (room_of_pass pass)

/-- A telegram to a field node gives away the entry that its arrival reserved. -/
theorem accounted_dispatchNode (t : Telegram) {n : Nat} {s : State} (h : s.Accounted (n + 1)) :
    (dispatchNode t s).Accounted n := by
  unfold dispatchNode takeDriveSet
  repeat' split
  · exact h.builds _
  · next f _ => exact (h.of_same (sameAccount_setFan f _ s)).builds _
  · exact h.builds _
  · exact accounted_screenCandidate _ _ _ h
  · exact accounted_screenCandidate _ _ _ h
  · exact h.builds _

/-- R9: a REQUEST that passes has a code. -/
theorem payload_ne_nil_of_request {t : Telegram} (passes : passesR9 .north t = true) (request : t.kind = .request) :
    t.payload ≠ [] := by
  intro empty
  simp [passesR9, payloadLengthOk, request, empty] at passes

theorem accounted_receiveNorth (t : Telegram) {s : State} (h : s.Accounted 0) : (receiveNorth t s).Accounted 0 := by
  have arrived : s.afterArrival.Accounted 0 := by rw [afterArrival_frame]; exact h.of_same {}
  have reserved : s.replyFree → (reserveReply s.afterArrival).Accounted 1 := fun free =>
    arrived.reserves (by rw [State.replyFree, afterArrival_frame]; exact free)
  rcases receiveNorth_cases t s with ⟨_, e⟩ | ⟨_, _, e⟩ | ⟨_, passes, _, ⟨_, e⟩ | ⟨free, _, e⟩ | ⟨free, _, e⟩⟩ <;>
    rw [e]
  · exact h
  · exact h.of_same {}
  · exact arrived
  · unfold dispatchOwn
    split
    · next request => exact accounted_serveRequest (payload_ne_nil_of_request passes request) (reserved free)
    · exact (reserved free).builds _
  · exact accounted_dispatchNode t (reserved free)

/-! ### The south loop (R25, R26, R30, R57, R160, R172) -/

/-- R160: the oldest REPORT leaves a queue that is full. -/
theorem length_pushReport_le (q : List Report) (r : Report) : (pushReport q r).length ≤ 24 := by
  simp only [pushReport, List.length_drop]
  omega

theorem sameAccount_channelEvent (ch : Fin 64) (policy : ForwardPolicy) (deadband : Nat) (ev : ChannelEvent)
    (base : ChannelRec) (s : State) : SameAccount s (channelEvent ch policy deadband ev base s) := by
  simp only [channelEvent]
  split
  · exact { reports := fun _ => length_pushReport_le _ _ }
  · exact {}

theorem sameAccount_takeReading (ch : Fin 64) (policy : ForwardPolicy) (deadband : Nat) (status : HeadStatus)
    (raw : Nat) (s : State) : SameAccount s (takeReading ch policy deadband status raw s) := by
  simp only [takeReading]
  split
  · exact {}
  · exact sameAccount_channelEvent _ _ _ _ _ s

theorem sameAccount_takeChannelMiss (ch : Fin 64) (policy : ForwardPolicy) (deadband : Nat) (s : State) :
    SameAccount s (takeChannelMiss ch policy deadband s) := by
  unfold takeChannelMiss
  split
  · exact {}
  · exact sameAccount_channelEvent _ _ _ _ _ s

theorem sameAccount_takeReadingFrom (node status : Byte) (raw : Nat) (s : State) :
    SameAccount s (takeReadingFrom node status raw s) := by
  unfold takeReadingFrom
  split
  · exact sameAccount_takeReading _ _ _ _ _ s
  · exact {}

/-- R25, R172: an ANSWER to a confirmed relay is answered in the relay's entry. -/
theorem accounted_takeAnswer {tr : Transaction} (payload : List Byte) {s : State}
    (h : s.Accounted tr.purpose.owed) : (takeAnswer tr payload s).Accounted 0 := by
  unfold takeAnswer
  cases purpose : tr.purpose with
  | relayConfirmed => rw [purpose] at h; exact State.Accounted.builds h _
  | scanPoll | scanQuery | fanDrive | relayPosted => rw [purpose] at h; exact h

/-- R26, R172: a confirmed relay that is missed is answered in its entry. -/
theorem accounted_deliverMiss {tr : Transaction} {s : State} (h : s.Accounted tr.purpose.owed) :
    (deliverMiss tr s).Accounted 0 := by
  unfold deliverMiss
  cases purpose : tr.purpose with
  | scanPoll =>
    rw [purpose] at h
    simp only
    split
    · exact h.of_same (sameAccount_takeChannelMiss _ _ _ s)
    · exact h
  | scanQuery | fanDrive =>
    rw [purpose] at h
    simp only
    split
    · rw [takeFanMiss_frame]; exact h.of_same {}
    · exact h
  | relayPosted => rw [purpose] at h; exact h
  | relayConfirmed => rw [purpose] at h; exact State.Accounted.builds h _

/-- A reply is accounted for if what it is handed to accounts for the entry that its transaction held. -/
theorem accounted_receiveSouth (t : Telegram) {take : Transaction → State → State} {s : State} (h : s.Accounted 0)
    (serves : ∀ tr u, t.kind = tr.purpose.expects → u.Accounted tr.purpose.owed → (take tr u).Accounted 0) :
    (receiveSouth t take s).Accounted 0 := by
  rcases receiveSouth_cases t take s with ⟨_, e⟩ | ⟨_, _, tr, slot, answers, e⟩ | ⟨_, _, e⟩ <;> rw [e]
  · exact h
  · rw [slot] at answers
    obtain ⟨_, _, kind⟩ := (answersOpen_iff tr t).1 answers
    have closed := h.closes slot
    rw [Nat.zero_add] at closed
    exact serves tr _ kind (closed.of_same {})
  · exact h.of_same {}

/-- A READING or a DRIVE STATUS ends a transaction that is owed no RESPONSE. -/
theorem accounted_receiveSouth_of_same {t : Telegram} {take : Transaction → State → State} {s : State}
    (other : t.kind ≠ .answer) (h : s.Accounted 0) (same : ∀ tr u, SameAccount u (take tr u)) :
    (receiveSouth t take s).Accounted 0 :=
  accounted_receiveSouth t h fun tr u kind owed => by
    rw [Purpose.owed_of_expects (kind ▸ other)] at owed
    exact owed.of_same (same tr u)

theorem accounted_windowExpiry (receiving : Bool) {s : State} (h : s.Accounted 0) :
    (windowExpiry receiving s).Accounted 0 := by
  rcases windowExpiry_cases receiving s with ⟨tr, slot, _, e⟩ | ⟨_, e⟩ <;> rw [e]
  · have closed := h.closes slot
    rw [Nat.zero_add] at closed
    exact accounted_deliverMiss (closed.of_same {})
  · exact h

/-- R28: the relay that the arbiter finds is the head of the relay queue. -/
theorem relayQueue_of_choice {s : State} {e : RelayEntry} (choice : southChoice s = .relay e) :
    ∃ rest, s.relayQueue = e :: rest := by
  have head : relayOrNothing s.relayQueue = .relay e → ∃ rest, s.relayQueue = e :: rest := fun found => by
    cases queue : s.relayQueue with
    | nil => rw [queue] at found; cases found
    | cons x rest => rw [queue] at found; cases found; exact ⟨rest, rfl⟩
  unfold southChoice at choice
  split at choice
  · cases choice
  · split at choice
    · exact head choice
    · split at choice
      · cases choice
      · exact head choice

/-- R27: a loop that is free has its slot IDLE, also with the stray flags cleared. -/
theorem cleared_slot_of_loopFree {s : State} (free : loopFree s = true) : (clearStrayFlags s).scan.slot = none := by
  simp only [loopFree, Bool.and_eq_true, Option.isNone_iff_eq_none] at free
  obtain ⟨⟨⟨⟨_, slot⟩, _⟩, _⟩, _⟩ := free
  rw [clearStrayFlags_scan, slot]

/-- R29: a fan is driven with no entry taken. -/
theorem accounted_openFanDrive (f : Fin 16) {s : State} (h : s.Accounted 0) (idle : s.scan.slot = none) :
    (openFanDrive f s).Accounted 0 :=
  State.Accounted.opens (purpose := .fanDrive) (h.of_same (sameAccount_setFan f _ s)) idle _ _

/-- R32: a scan entry is asked with no entry taken. -/
theorem accounted_openScan (i : Nat) {s : State} (h : s.Accounted 0) (idle : s.scan.slot = none) :
    (openScan i s).Accounted 0 := by
  simp only [openScan]
  refine State.Accounted.opens ?_ ?_ _ _
  · rw [Purpose.owed_of_expects (by split <;> simp [Purpose.expects])]
    exact h.of_same {}
  · exact idle

/-- R30: the entry of a confirmed relay passes from the relay queue to the slot. -/
theorem accounted_openRelay {e : RelayEntry} {rest : List RelayEntry} {s : State} (h : s.Accounted 0)
    (queue : s.relayQueue = e :: rest) (idle : s.scan.slot = none) : (openRelay e s).Accounted 0 := by
  unfold openRelay
  refine State.Accounted.opens ?_ ?_ _ _
  · exact (h.pops queue).of_same {}
  · exact idle

/-! ### The north transmitter and supervisor silence (R155, R158, R165) -/

/-- R158: a choice leaves the credits within 7. -/
theorem bounded_updateCredits (c : NorthClass) {s : State} (h : s.north.credits.Bounded) :
    (updateCredits c s).north.credits.Bounded := by
  have after : ∀ k, creditAfter s c k ≤ 7 := fun k => by
    unfold creditAfter
    split
    · omega
    · split
      · exact Nat.min_le_right _ _
      · exact h k
  intro k
  cases k <;> exact after _

theorem sameAccount_northChoiceStep (s : State) : SameAccount s (northChoiceStep s) := by
  rcases northChoiceStep_cases s with ⟨_, c, _, e⟩ | ⟨_, e⟩ <;> rw [e]
  · have credits : s.north.credits.Bounded → (updateCredits c s).north.credits.Bounded := bounded_updateCredits c
    cases c with
    | alert =>
      simp only [serveClass, sendAlert]
      split <;> exact { credits := credits }
    | response =>
      simp only [serveClass, sendResponse]
      split
      · exact { credits := credits }
      · next r rest built =>
        have shorter : rest.length ≤ s.north.built.length := by
          rw [show s.north.built = r :: rest from built]
          exact Nat.le_succ _
        exact { credits := credits, built := shorter }
    | report =>
      simp only [serveClass, sendReport]
      split
      · exact { credits := credits }
      · next r rest reports =>
        have shorter : s.north.reports.length ≤ 24 → rest.length ≤ 24 := by
          rw [show s.north.reports = r :: rest from reports]
          exact fun h => Nat.le_of_succ_le h
        exact { credits := credits, reports := shorter }
  · exact {}

/-- R165: the expiry of supervisor silence frees the entries of the relay queue that it empties. -/
theorem accounted_silenceExpiry {s : State} (h : s.Accounted 0) : (silenceExpiry s).Accounted 0 := by
  have dropped : (dropSupervisorWork s).Accounted 0 :=
    { h with
      reserved := by
        have none_ : confirmedCount [] = 0 := rfl
        rw [dropSupervisorWork_north, owed_eq, dropSupervisorWork_relayQueue, dropSupervisorWork_scan,
          dropSupervisorWork_banks, h.reserved, owed_eq, none_]
        show _ - confirmedCount s.relayQueue = _
        omega
      replies := (Nat.add_le_add_right (Nat.sub_le _ _) _).trans h.replies
      relays := Nat.zero_le 4 }
  rcases silenceExpiry_cases s with ⟨_, _, e⟩ | ⟨_, e⟩ <;> rw [e]
  · exact dropped.of_same (by apply sameAccount_of_eq <;> simp)
  · exact h

/-! ### Activation, swap and resets (R126, R127, R173, R185 to R187) -/

/-- R186, R187: the DONE of a swap is built in the activation's entry. -/
theorem accounted_finishSwap {n : Nat} {s : State} (h : s.Accounted n) (busy : s.banks.state ≠ .idle) :
    (finishSwap s).Accounted n := by
  unfold finishSwap
  refine ((h.ends busy).of_same { built := ?_ }).builds _
  split <;> simp

theorem accounted_closeCycle {s : State} (h : s.Accounted 0) : (closeCycle s).Accounted 0 := by
  have work : (closeWork s).Accounted 0 := by
    rw [closeWork_frame]
    exact h.of_same {}
  have swap : (closeSwap (closeWork s)).Accounted 0 := by
    rcases closeSwap_cases (closeWork s) with ⟨pending, e⟩ | ⟨_, e⟩ <;> rw [e]
    · have ready : (closeWork s).exchanged.Accounted 0 :=
        work.of_same (by apply sameAccount_of_eq <;> simp [State.exchanged])
      have busy : (closeWork s).exchanged.banks.state ≠ .idle := by
        simp [State.exchanged, pending]
      exact (accounted_finishSwap ready busy).of_same
        (by rw [swapAtClose_eq]; apply sameAccount_of_eq <;> simp)
    · exact work
  have purge : (closePurge (closeSwap (closeWork s))).Accounted 0 := by
    rcases closePurge_cases (closeSwap (closeWork s)) with ⟨_, _, e⟩ | ⟨_, e⟩ <;> rw [e]
    · rw [purgeExpiry_frame]; exact swap.of_same {}
    · exact swap
  unfold closeCycle
  split
  · exact purge.of_same {}
  · exact purge

theorem accounted_checkEndStep {s : State} (h : s.Accounted 0) : (checkEndStep s).Accounted 0 := by
  unfold checkEndStep checkEnd
  split
  · next expected checking =>
    have busy : s.banks.state ≠ .idle := by rw [checking]; simp
    have failed : ∀ result payload, (failActivation result payload s).Accounted 0 := fun _ _ =>
      (h.ends busy).builds _
    repeat' split
    · exact failed _ _
    · exact failed _ _
    · have ready : (exchangeBanks (reinitialiseAll s)).Accounted 0 := h.of_same {}
      exact (accounted_finishSwap ready busy).of_same
        (by apply sameAccount_of_eq <;> simp [firstActivation, enterPurge])
    · exact { h with
        reserved := by
          rw [h.reserved, owed_eq, owed_eq, checking]
          rfl }
  · exact h

theorem accounted_warmReset (s : State) : (warmReset s).Accounted 0 := by
  obtain ⟨_, _, _, _, relayQueue, banks, north⟩ := warmReset_blocks s
  have slot : (warmReset s).scan.slot = none := by
    unfold warmReset
    cases s.banks.active <;> rfl
  exact accounted_of_reset north relayQueue slot (by rw [banks])

theorem accounted_releaseHold (release : Release) {s : State} (h : s.Accounted 0) :
    (releaseHold release s).Accounted 0 := by
  rcases releaseHold_cases release s with ⟨_, e⟩ | ⟨_, _, e⟩ | ⟨_, _, e⟩ <;> rw [e]
  · exact h
  · exact h.of_same {}
  · exact accounted_of_reset rfl rfl rfl rfl

/-! ### All commands -/

theorem effect_keeps_accounted (c : Instr) {s : State} (h : s.Accounted 0) : (effect c s).Accounted 0 := by
  have cleared : (clearStrayFlags s).Accounted 0 := h.of_same (sameAccount_clearStrayFlags s)
  cases c with
  | coldReset r => exact accounted_releaseHold r h
  | resetHold k =>
    simp only [effect]
    split
    · exact accounted_of_reset rfl rfl rfl rfl
    · exact h
  | warmReset =>
    simp only [effect]
    split
    · exact accounted_warmReset s
    · exact h
  | tableWrite | tableRead | activate | acknowledge | status | readChannels | readZone | readFan | restart
  | driveSet | command | dispatchBadRequest | unknownRequest => exact accounted_receiveNorth _ h
  | reading =>
    exact accounted_receiveSouth_of_same (by simp) h fun _ u => sameAccount_takeReadingFrom _ _ _ u
  | driveStatus =>
    refine accounted_receiveSouth_of_same (by simp) h fun _ u => ?_
    rw [takeDriveStatusFrom_frame]
    exact {}
  | answer => exact accounted_receiveSouth _ h fun _ _ _ owed => accounted_takeAnswer _ owed
  | replyWindowExpiry receiving => exact accounted_windowExpiry receiving h
  | localConversionComplete sample =>
    rcases conversionStep_cases sample s with ⟨_, rest, _, e⟩ | ⟨_, e⟩ <;> simp only [effect, e]
    · exact State.Accounted.of_same (s := { s with converter := rest }) (h.of_same {})
        (sameAccount_takeReading _ _ _ _ _ _)
    · exact h
  | cycleTimerExpiry => simp only [effect]; rw [timerExpiry_frame]; exact h.of_same {}
  | cycleClose =>
    simp only [effect]
    split
    · exact accounted_closeCycle h
    · exact h
  | fanDrive =>
    rcases fanDriveStep_cases s with ⟨free, f, _, e⟩ | ⟨_, _, e⟩ | ⟨_, e⟩ <;> simp only [effect, e]
    · exact accounted_openFanDrive f cleared (cleared_slot_of_loopFree free)
    · exact cleared
    · exact h
  | relayTransaction =>
    rcases relayStep_cases s with ⟨free, entry, choice, e⟩ | ⟨_, e⟩ <;> simp only [effect, e]
    · obtain ⟨rest, queue⟩ := relayQueue_of_choice choice
      exact accounted_openRelay cleared (by rw [clearStrayFlags_relayQueue, queue]) (cleared_slot_of_loopFree free)
    · exact h
  | scanTransaction =>
    rcases scanStep_cases s with ⟨free, i, _, e⟩ | ⟨_, e⟩ <;> simp only [effect, e]
    · exact accounted_openScan i cleared (cleared_slot_of_loopFree free)
    · exact h
  | southRateChange =>
    rcases southRateStep_cases s with ⟨_, _, _, e⟩ | ⟨_, e⟩ <;> simp only [effect, e]
    · exact h.of_same {}
    · exact h
  | northChoice => exact h.of_same (sameAccount_northChoiceStep s)
  | northTransmissionEnd receiving => simp only [effect]; rw [northSent_frame]; exact h.of_same {}
  | activationCheckEnd => exact accounted_checkEndStep h
  | purgeTimerExpiry =>
    rcases purgeTimerStep_cases s with ⟨_, _, e⟩ | e <;> simp only [effect, e]
    · rw [purgeExpiry_frame]; exact h.of_same {}
    · exact h
  | supervisorSilenceExpiry => exact accounted_silenceExpiry h
  | tachPulse | pwmPeriodEnd => exact h.of_same {}
  | lineIdle line => simp only [effect]; rw [idleStep_frame]; exact h.of_same {}
  | telegramAbandoned line cause =>
    rcases abandonStep_cases line cause s with ⟨_, e⟩ | ⟨_, e⟩ <;> simp only [effect, e]
    · rw [endReception_frame]; exact h.of_same {}
    · exact h
  | discardedTelegram line chars =>
    rcases discardStep_cases line chars s with ⟨_, _, e⟩ | ⟨_, e⟩ <;> simp only [effect, e]
    · rw [endReception_frame]; exact h.of_same {}
    · exact h
  | southTransmissionEnd =>
    rcases southSent_cases s with ⟨_, e⟩ | ⟨_, e⟩ <;> simp only [effect, e]
    · exact h.of_same { slot := by cases s.scan.slot <;> rfl }
    · exact h

/-- Settles O7, by the entries that each command takes in hand and gives away. -/
theorem stepKeepsQueuesAccounted : Obligations.StepKeepsQueuesAccounted :=
  step_keeps (fun _ _ h => { h with }) fun c s _ h =>
    (queuesAccounted_iff _).2 (effect_keeps_accounted c ((queuesAccounted_iff s).1 h))

end Sys2Proof.Machine
end

section
/-! The screening of relay candidates (R169 to R171). Settles CandidateIsScreened. -/

namespace Sys2Proof.Machine

/-! ### The steps of the screening (R169) -/

theorem screenVerdict_of_unconfigured {s : State} (device : s.control.device = .unconfigured) (node : Byte)
    (kind : RelayKind) : screenVerdict s node kind = .refuse .noRoute := by
  rw [screenVerdict, if_pos device]

theorem screenVerdict_of_no_window {s : State} {node : Byte} (window : screenWindow s.tables node = none)
    (kind : RelayKind) : screenVerdict s node kind = .refuse .noRoute := by
  unfold screenVerdict
  split
  · rfl
  · rw [window]

/-- R169: what the window of a node decides: its permission, the interlock and the room in the relay queue. -/
theorem screenVerdict_of_window {s : State} {node : Byte} {w : ScreenEntry}
    (device : s.control.device ≠ .unconfigured) (window : screenWindow s.tables node = some w) (kind : RelayKind) :
    screenVerdict s node kind =
      if w.permits kind = false ∨ (w.gated = true ∧ s.alloc.inhibit = true) then .refuse .notPermitted
      else if 4 ≤ s.relayQueue.length then .refuse .busy
      else .pass w.mode := by
  rw [screenVerdict, if_neg device, window]
  simp only [Bool.not_eq_true', Bool.and_eq_true]
  by_cases permits : w.permits kind = false
  · rw [if_pos permits, if_pos (.inl permits)]
  · rw [if_neg permits]
    simp only [eq_false permits, false_or]

theorem permits_eq (w : ScreenEntry) (kind : RelayKind) :
    w.permits kind = if kind = .command then w.permitsCommand else w.permitsDriveSet := by
  cases kind <;> rfl

/-- R170: the kind that the answer to a candidate echoes. -/
theorem relayKindCode_eq (kind : RelayKind) :
    kindCode (relayTelegramKind kind) = if kind = .command then 0x31#8 else 0x22#8 := by
  cases kind <;> rfl

/-! ### The candidate in the state its arrival leaves (R170, R171) -/

/-- The screening reads nothing that the candidate's own arrival has changed. -/
theorem screenVerdict_afterArrival (s : State) (node : Byte) (kind : RelayKind) :
    screenVerdict (reserveReply s.afterArrival) node kind = screenVerdict s node kind := by
  have tables : (reserveReply s.afterArrival).tables = s.tables := by
    rw [reserveReply_tables, afterArrival_tables]
  have control : (reserveReply s.afterArrival).control = s.control := by
    rw [reserveReply_control, afterArrival_frame]
  have alloc : (reserveReply s.afterArrival).alloc = s.alloc := by
    rw [reserveReply_alloc, afterArrival_frame]
  have relayQueue : (reserveReply s.afterArrival).relayQueue = s.relayQueue := by
    rw [reserveReply_relayQueue, afterArrival_frame]
  rw [screenVerdict, screenVerdict, tables, control, alloc, relayQueue]

theorem screenCandidate_of_refusal {s : State} {node : Byte} {kind : RelayKind} {result : ResultCode}
    (refusal : screenVerdict s node kind = .refuse result) (payload : List Byte) :
    screenCandidate node kind payload (reserveReply s.afterArrival) =
      s.afterArrival.answered node (kindCode (relayTelegramKind kind)) result [] := by
  rw [screenCandidate, screenVerdict_afterArrival, refusal]
  exact respond_reserveReply _ _ _ _ _

/-- R171: a posted candidate is answered ACCEPTED at once, in the entry its arrival reserved. -/
theorem screenCandidate_of_posted {s : State} {node : Byte} {kind : RelayKind}
    (pass : screenVerdict s node kind = .pass .posted) (payload : List Byte) :
    screenCandidate node kind payload (reserveReply s.afterArrival) =
      { s.afterArrival.answered node (kindCode (relayTelegramKind kind)) .accepted [] with
        relayQueue := s.relayQueue ++ [{ node, kind, payload, mode := .posted }] } := by
  have relayQueue : s.afterArrival.relayQueue = s.relayQueue := by rw [afterArrival_frame]
  rw [screenCandidate, screenVerdict_afterArrival, pass, ← respond_reserveReply, ← relayQueue]
  rfl

/-- R171: a confirmed candidate keeps the entry its arrival reserved. -/
theorem screenCandidate_of_confirmed {s : State} {node : Byte} {kind : RelayKind}
    (pass : screenVerdict s node kind = .pass .confirmed) (payload : List Byte) :
    screenCandidate node kind payload (reserveReply s.afterArrival) =
      { s.afterArrival with
        relayQueue := s.relayQueue ++ [{ node, kind, payload, mode := .confirmed }]
        north := { s.afterArrival.north with reserved := s.north.reserved + 1 } } := by
  have relayQueue : s.afterArrival.relayQueue = s.relayQueue := by rw [afterArrival_frame]
  have reserved : s.afterArrival.north.reserved = s.north.reserved := by rw [afterArrival_frame]
  rw [screenCandidate, screenVerdict_afterArrival, pass, ← relayQueue, ← reserved]
  rfl

/-- R13, R168: a DRIVE SET of a duty to a node that no enabled REMOTE fan has is a relay candidate. -/
theorem takeDriveSet_of_no_fan {s : State} {node speed : Byte} (duty : speed.toNat ≤ 100)
    (fan : remoteFanOf s.tables node = none) :
    takeDriveSet node speed s = screenCandidate node .driveSet [speed] s := by
  rw [takeDriveSet, if_neg (by omega), fan]
  exact if_neg (by omega)

/-- R13, R168: a COMMAND, or a DRIVE SET that is not absorbed, comes to its screening. -/
theorem exec_of_candidate {s : State} {c : Instr} {node : Byte} {kind : RelayKind} {payload : List Byte}
    (open_ : s.northOpen) (free : s.replyFree) (low : 1 ≤ node.toNat) (high : node.toNat ≤ 247)
    (other : node ≠ s.address)
    (candidate : (c = .command node payload ∧ kind = .command ∧ payload.length ≤ 48) ∨
      (∃ speed : Byte, c = .driveSet node speed ∧ kind = .driveSet ∧ payload = [speed] ∧
        speed.toNat ≤ 100 ∧ remoteFanOf s.tables node = none)) :
    exec c s = .next (screenCandidate node kind payload (reserveReply s.afterArrival)) := by
  rcases candidate with ⟨rfl, rfl, length⟩ | ⟨speed, rfl, rfl, rfl, duty, fan⟩
  · have passes : passesR9 .north { dest := node, source := 0#8, kind := .command, payload } = true :=
      passesR9_north (.inr (.inl rfl)) (decide_eq_true length)
    rw [exec_of_running _ open_.1, effect,
      receiveNorth_node open_.2 passes (nodeTelegram_traffic _ rfl ⟨low, high⟩) free other]
    rfl
  · have tables : (reserveReply s.afterArrival).tables = s.tables := by
      rw [reserveReply_tables, afterArrival_tables]
    rw [exec_of_running _ open_.1, effect,
      receiveNorth_node open_.2 rfl (nodeTelegram_traffic _ rfl ⟨low, high⟩) free other]
    exact congrArg _ (takeDriveSet_of_no_fan duty (by rw [tables]; exact fan))

/-- Settles O31, by the step of the screening that decides. -/
theorem candidateIsScreened : Obligations.CandidateIsScreened := by
  intro s c node kind payload open_ free low high other candidate
  rw [exec_of_candidate open_ free low high other candidate, ← relayKindCode_eq]
  refine congrArg _ ?_
  by_cases device : s.control.device = .unconfigured
  · rw [if_pos device, screenCandidate_of_refusal (screenVerdict_of_unconfigured device node kind)]
  rw [if_neg device]
  cases window : screenWindow s.tables node with
  | none => exact screenCandidate_of_refusal (screenVerdict_of_no_window window kind) payload
  | some w =>
    have verdict := screenVerdict_of_window device window kind
    simp only [← permits_eq]
    by_cases refused : w.permits kind = false ∨ (w.gated = true ∧ s.alloc.inhibit = true)
    · rw [if_pos refused] at verdict ⊢
      exact screenCandidate_of_refusal verdict payload
    rw [if_neg refused] at verdict ⊢
    by_cases full : 4 ≤ s.relayQueue.length
    · rw [if_pos full] at verdict ⊢
      exact screenCandidate_of_refusal verdict payload
    rw [if_neg full] at verdict ⊢
    cases mode : w.mode with
    | posted => exact screenCandidate_of_posted (mode ▸ verdict) payload
    | confirmed => exact screenCandidate_of_confirmed (mode ▸ verdict) payload

end Sys2Proof.Machine
end

section
/-! The choice of the north arbiter and the wait credits (R155 to R159). Settles NorthChoiceServesOneClass. -/

namespace Sys2Proof.Machine

/-! ### The class chosen waits (R155, R157) -/

theorem waits_of_chooses {s : State} {c : NorthClass} (chosen : s.chooses c) : s.waits c := by
  rcases chosen with ⟨⟨i, flag, _⟩, rfl⟩ | ⟨_, waits, _⟩
  · exact ⟨i, flag⟩
  · exact waits

/-- R157: the arbiter finds no class that does not wait. -/
theorem waits_of_northClass {s : State} {c : NorthClass} (found : northClass s = some c) : s.waits c := by
  unfold northClass at found
  split at found
  · next pending =>
    obtain ⟨i, flag, _⟩ := (immediateSource_isSome s).1 pending
    cases found
    exact ⟨i, flag⟩
  · exact (classWaits_iff s c).1 (List.mem_filter.1 (mem_of_lowestRank found)).2

/-- R144: a flagged source gives a next notice. -/
theorem nextNotice_isSome {s : State} (waits : s.waits .alert) : ∃ i, nextNotice s = some i := by
  obtain ⟨i, flag⟩ := waits
  unfold nextNotice
  split
  · exact ⟨_, rfl⟩
  · split
    · exact ⟨_, rfl⟩
    · exact ⟨_, List.head?_eq_some_head (List.ne_nil_of_mem (mem_flaggedSources.2 flag))⟩

/-- The telegram kind of a class (R155). -/
def NorthClass.telegramKind : NorthClass → TelegramKind
  | .alert => .alert
  | .response => .response
  | .report => .report

/-- R14, R155: a class that waits has a telegram for the supervisor. -/
theorem serveClass_sends {s : State} {c : NorthClass} (waits : s.waits c) :
    ∃ tel mark, (serveClass c s).lines.northTx = .sending tel mark ∧ tel.kind = c.telegramKind ∧ tel.dest = 0#8 := by
  cases c with
  | alert =>
    obtain ⟨i, next⟩ := nextNotice_isSome waits
    rw [serveClass_alert next]
    exact ⟨_, _, rfl, rfl, rfl⟩
  | response =>
    obtain ⟨r, rest, built⟩ := List.exists_cons_of_ne_nil waits
    rw [serveClass_response built]
    exact ⟨_, _, rfl, rfl, rfl⟩
  | report =>
    obtain ⟨r, rest, reports⟩ := List.exists_cons_of_ne_nil waits
    rw [serveClass_report reports]
    exact ⟨_, _, rfl, rfl, rfl⟩

/-! ### The credits (R158) -/

/-- R158: the service of a class leaves the credits of its choice. -/
theorem credits_after_choice (s : State) (c d : NorthClass) :
    (serveClass c (updateCredits c s)).north.credits.of d = creditAfter s c d := by
  rw [serveClass_frame]
  cases d <;> rfl

/-- A choice's credits leave every class waiting as it was. -/
theorem updateCredits_waits_iff (c d : NorthClass) (s : State) : (updateCredits c s).waits d ↔ s.waits d := by
  cases d <;> rfl

theorem creditAfter_chosen (s : State) (c : NorthClass) : creditAfter s c c = 0 := if_pos rfl

theorem creditAfter_waiting {s : State} {c d : NorthClass} (other : d ≠ c) (waits : s.waits d) :
    creditAfter s c d = min (s.north.credits.of d + 1) 7 := by
  rw [creditAfter, if_neg other, if_pos ((classWaits_iff s d).2 waits)]

theorem creditAfter_idle {s : State} {c d : NorthClass} (other : d ≠ c) (idle : ¬ s.waits d) :
    creditAfter s c d = s.north.credits.of d := by
  rw [creditAfter, if_neg other, if_neg (mt (classWaits_iff s d).1 idle)]

/-! ### The statement -/

/-- R156: with no class waiting, or the transmitter not free, the arbiter does nothing. -/
theorem exec_northChoice_of_idle {s : State}
    (idle : (∀ c, ¬ s.waits c) ∨ s.lines.northTx ≠ .ready ∨ s.lines.northHold = true) :
    exec .northChoice s = .next s := by
  cases held : s.held with
  | true => exact live_of_held _ held
  | false =>
    rw [exec_of_running _ held, effect]
    rcases northChoiceStep_cases s with ⟨free, c, found, _⟩ | ⟨_, e⟩
    · obtain ⟨ready, unheld⟩ := (northFree_iff s).1 free
      rcases idle with none_ | busy | hold
      · exact absurd (waits_of_northClass found) (none_ c)
      · exact absurd ready busy
      · rw [unheld] at hold; cases hold
    · rw [e]

/-- Settles O52, by the class that the arbiter finds and the credits of its choice. -/
theorem northChoiceServesOneClass : Obligations.NorthChoiceServesOneClass := by
  intro s
  refine ⟨fun c free chosen => ?_, exec_northChoice_of_idle⟩
  have waits : (updateCredits c s).waits c := (updateCredits_waits_iff c c s).2 (waits_of_chooses chosen)
  obtain ⟨tel, mark, sends, kind, dest⟩ := serveClass_sends waits
  refine ⟨_, tel, mark, exec_northChoice_of_chooses free chosen, sends, ?_, dest, fun d k credit => ?_⟩
  · rw [kind]
    cases c <;> rfl
  · have of_class : k = fun n => n.credits.of d := by
      rw [credit]
      cases d <;> rfl
    subst of_class
    simp only [credits_after_choice]
    exact ⟨fun same => same ▸ creditAfter_chosen s d, creditAfter_waiting, creditAfter_idle⟩

end Sys2Proof.Machine
end

section
/-! Both banks in canonical form and inside an image, and the banks that are in force checked, after every command
(R175, R178, R184, R195). Settles StepKeepsBanksInForm and StepKeepsBanksChecked. -/

namespace Sys2Proof.Machine

/-! ### The spans of the tables (R178, R195) -/

/-- R195: every table lies inside an image. -/
theorem tableLayout_inside {id start len size : Nat} (layout : tableLayout id = some (start, len, size)) :
    start + len * size ≤ imageLength := by
  unfold tableLayout at layout
  split at layout <;> cases layout <;> decide

/-- R195: there are eight tables. -/
theorem tableLayout_of_ge {id : Nat} (other : 8 ≤ id) : tableLayout id = none := by
  obtain ⟨n, rfl⟩ := Nat.exists_eq_add_of_le' other
  rfl

/-- R178: the span of a count of records that the table holds. -/
theorem tableSpan_of_inside {id first count start len size : Nat}
    (layout : tableLayout id = some (start, len, size)) (nonzero : 1 ≤ count) (inside : first + count ≤ size) :
    tableSpan id first count = some (start + len * first, len) := by
  simp only [tableSpan, layout]
  rw [if_neg (by omega)]

/-- R178: a count of 0, and a span past the table's end. -/
theorem tableSpan_of_outside {id first count start len size : Nat}
    (layout : tableLayout id = some (start, len, size)) (outside : count = 0 ∨ size < first + count) :
    tableSpan id first count = none := by
  simp only [tableSpan, layout]
  rw [if_pos outside]

/-- R178: a table id that names no table. -/
theorem tableSpan_of_noTable {id : Nat} (none_ : tableLayout id = none) (first count : Nat) :
    tableSpan id first count = none := by
  simp only [tableSpan, none_]

/-- R178: what it takes to name records of a table. -/
theorem tableSpan_eq_some {id first count at_ len : Nat} (span : tableSpan id first count = some (at_, len)) :
    ∃ start size, tableLayout id = some (start, len, size) ∧ 1 ≤ count ∧ first + count ≤ size ∧
      at_ = start + len * first := by
  unfold tableSpan at span
  split at span
  · cases span
  · next start len' size layout =>
    split at span
    · cases span
    · next inside =>
      cases span
      exact ⟨start, size, layout, by omega, by omega, rfl⟩

/-- R195: the records that a span names lie inside an image. -/
theorem tableSpan_inside {id first count at_ len : Nat} (span : tableSpan id first count = some (at_, len)) :
    at_ + count * len ≤ imageLength := by
  obtain ⟨start, size, layout, -, inside, rfl⟩ := tableSpan_eq_some span
  calc start + len * first + count * len = start + len * (first + count) := by ring
    _ ≤ start + len * size := by gcongr
    _ ≤ imageLength := tableLayout_inside layout

/-! ### What keeps both banks in form -/

theorem State.BanksInForm.of_bytes {s t : State} (h : s.BanksInForm) (bankA : t.banks.bankA = s.banks.bankA)
    (bankB : t.banks.bankB = s.banks.bankB) : t.BanksInForm where
  formA := by rw [bankA]; exact h.formA
  formB := by rw [bankB]; exact h.formB
  insideA := by rw [bankA]; exact h.insideA
  insideB := by rw [bankB]; exact h.insideB

theorem State.BanksInForm.congr {s t : State} (h : s.BanksInForm) (banks : t.banks = s.banks) : t.BanksInForm :=
  h.of_bytes (by rw [banks]) (by rw [banks])

theorem State.BanksInForm.of_sameNamed {s t : State} (h : s.BanksInForm) (same : SameNamed s t) : t.BanksInForm :=
  h.of_bytes same.bankA same.bankB

/-- A bank by its name. -/
theorem State.BanksInForm.bank {s : State} (h : s.BanksInForm) (id : BankId) : (s.banks.bank id).wf = true := by
  cases id
  · exact h.formA
  · exact h.formB

/-- A run of bytes that ends inside the image can be written into the standby bank. -/
theorem banksInForm_writeStandby {s : State} (h : s.BanksInForm) {start : Nat} {bytes : List Byte}
    (inside : start + bytes.length ≤ imageLength) :
    { s with banks := writeStandby start bytes s.banks : State }.BanksInForm := by
  unfold writeStandby
  cases s.banks.standbyId
  · exact { h with
      formA := Memory.wf_writeBytes _ _ _ h.formA
      insideA := Memory.inside_writeBytes _ _ _ h.insideA inside }
  · exact { h with
      formB := Memory.wf_writeBytes _ _ _ h.formB
      insideB := Memory.inside_writeBytes _ _ _ h.insideB inside }

/-- R178: a TABLE WRITE writes records of a table, or nothing. -/
theorem banksInForm_serveTableWrite (fields : List Byte) {s : State} (h : s.BanksInForm) :
    (serveTableWrite fields s).BanksInForm := by
  unfold serveTableWrite
  repeat' split
  · exact h.congr rfl
  · exact h.congr rfl
  · exact h.congr rfl
  · next span length _ =>
    refine (banksInForm_writeStandby h ?_).congr rfl
    rw [not_not.1 length]
    exact tableSpan_inside span
  · exact h.congr rfl

theorem banksInForm_serveRequest (payload : List Byte) {s : State} (h : s.BanksInForm) :
    (serveRequest payload s).BanksInForm := by
  by_cases write : ∃ fields, payload = codeTableWrite :: fields
  · obtain ⟨fields, rfl⟩ := write
    exact banksInForm_serveTableWrite fields h
  · obtain ⟨bankA, bankB⟩ := serveRequest_bytes (fun fields e => write ⟨fields, e⟩) s
    exact h.of_bytes bankA bankB

theorem banksInForm_receiveNorth (t : Telegram) {s : State} (h : s.BanksInForm) :
    (receiveNorth t s).BanksInForm := by
  have arrived : s.afterArrival.BanksInForm := h.of_sameNamed (sameNamed_afterArrival s)
  have reserved : (reserveReply s.afterArrival).BanksInForm := arrived.congr rfl
  rcases receiveNorth_cases t s with ⟨_, e⟩ | ⟨_, _, e⟩ | ⟨_, _, _, ⟨_, e⟩ | ⟨_, _, e⟩ | ⟨_, _, e⟩⟩ <;>
    rw [e]
  · exact h
  · exact h.congr rfl
  · exact arrived
  · unfold dispatchOwn
    split
    · exact banksInForm_serveRequest _ reserved
    · exact reserved.congr rfl
  · rw [dispatchNode_frame]
    exact reserved.congr rfl

/-! ### Commands that leave the Bank Manager -/

/-- R29, R30, R32: the south arbiter reads the active bank alone. -/
theorem southArbiter_banks (s : State) :
    (fanDriveStep s).banks = s.banks ∧ (relayStep s).banks = s.banks ∧ (scanStep s).banks = s.banks := by
  refine ⟨?_, ?_, ?_⟩
  · rcases fanDriveStep_cases s with ⟨_, f, _, e⟩ | ⟨_, _, e⟩ | ⟨_, e⟩ <;> simp [e, openFanDrive]
  · rcases relayStep_cases s with ⟨_, entry, _, e⟩ | ⟨_, e⟩ <;> simp [e, openRelay]
  · rcases scanStep_cases s with ⟨_, i, _, e⟩ | ⟨_, e⟩ <;> simp [e, openScan]

/-- R2, R3, R6, R7: the events of the lines. -/
theorem lineEvents_banks (s : State) :
    (southRateStep s).banks = s.banks ∧ (southSent s).banks = s.banks ∧
      (∀ line, (idleStep line s).banks = s.banks) ∧
      (∀ line cause, (abandonStep line cause s).banks = s.banks) ∧
      ∀ line chars, (discardStep line chars s).banks = s.banks := by
  refine ⟨?_, ?_, fun line => ?_, fun line cause => ?_, fun line chars => ?_⟩
  · rcases southRateStep_cases s with ⟨_, _, _, e⟩ | ⟨_, e⟩ <;> rw [e]
  · rcases southSent_cases s with ⟨_, e⟩ | ⟨_, e⟩ <;> rw [e]
  · rw [idleStep_frame]
  · rcases abandonStep_cases line cause s with ⟨_, e⟩ | ⟨_, e⟩ <;> rw [e]
    rw [endReception_frame]
  · rcases discardStep_cases line chars s with ⟨_, _, e⟩ | ⟨_, e⟩ <;> rw [e]
    rw [endReception_frame]

/-- R26, R55: a miss or a sample reaches its record. -/
theorem samples_banks (s : State) :
    (∀ receiving, (windowExpiry receiving s).banks = s.banks) ∧
      ∀ sample, (conversionStep sample s).banks = s.banks := by
  refine ⟨fun receiving => ?_, fun sample => ?_⟩
  · rcases windowExpiry_cases receiving s with ⟨tr, _, _, e⟩ | ⟨_, e⟩ <;> rw [e]
    rw [deliverMiss_frame]
  · rcases conversionStep_cases sample s with ⟨i, rest, _, e⟩ | ⟨_, e⟩ <;> rw [e]
    rw [takeReading_frame]

/-! ### All commands -/

theorem effect_keeps_banksInForm (c : Instr) {s : State} (h : s.BanksInForm) : (effect c s).BanksInForm := by
  obtain ⟨fanDrive, relay, scan⟩ := southArbiter_banks s
  obtain ⟨southRate, southSent, idle, abandoned, discarded⟩ := lineEvents_banks s
  obtain ⟨window, conversion⟩ := samples_banks s
  cases c with
  | coldReset r =>
    rcases releaseHold_cases r s with ⟨_, e⟩ | ⟨_, _, e⟩ | ⟨_, _, e⟩ <;> simp only [effect, e]
    · exact h
    · exact h.congr rfl
    · exact reset_banksInForm.congr rfl
  | resetHold k =>
    simp only [effect]
    split
    · exact reset_banksInForm.congr rfl
    · exact h
  | warmReset =>
    simp only [effect]
    split
    · obtain ⟨_, _, _, _, _, banks, _⟩ := warmReset_blocks s
      exact h.of_bytes (by rw [banks]) (by rw [banks])
    · exact h
  | tableWrite | tableRead | activate | acknowledge | status | readChannels | readZone | readFan | restart
  | driveSet | command | dispatchBadRequest | unknownRequest => exact banksInForm_receiveNorth _ h
  | reading => exact h.of_sameNamed (sameNamed_receiveSouth _ s fun _ u => sameNamed_takeReadingFrom _ _ _ u)
  | driveStatus => exact h.of_sameNamed (sameNamed_receiveSouth _ s fun _ u => sameNamed_takeDriveStatusFrom _ _ u)
  | answer => exact h.of_sameNamed (sameNamed_receiveSouth _ s fun _ u => by rw [takeAnswer_frame]; exact {})
  | replyWindowExpiry => exact h.congr (window _)
  | localConversionComplete => exact h.congr (conversion _)
  | cycleTimerExpiry => exact h.of_sameNamed (sameNamed_timerExpiry s)
  | cycleClose =>
    simp only [effect]
    split
    · exact h.of_bytes (closeCycle_bytes s).1 (closeCycle_bytes s).2
    · exact h
  | fanDrive => exact h.congr fanDrive
  | relayTransaction => exact h.congr relay
  | scanTransaction => exact h.congr scan
  | southRateChange => exact h.congr southRate
  | northChoice => exact h.of_sameNamed (sameNamed_northChoiceStep s)
  | northTransmissionEnd => simp only [effect]; rw [northSent_frame]; exact h.of_bytes rfl rfl
  | activationCheckEnd =>
    obtain ⟨bankA, bankB, _⟩ := checkEndStep_bytes_zones s
    exact h.of_bytes bankA bankB
  | purgeTimerExpiry => exact h.congr (purgeTimerStep_bytes_zones s).1
  | supervisorSilenceExpiry => exact h.of_sameNamed (sameNamed_silenceExpiry s)
  | tachPulse | pwmPeriodEnd => exact h.congr rfl
  | lineIdle => exact h.congr (idle _)
  | telegramAbandoned => exact h.congr (abandoned _ _)
  | discardedTelegram => exact h.congr (discarded _ _)
  | southTransmissionEnd => exact h.congr southSent

/-- Settles O5: a TABLE WRITE writes records of a table alone, a reset empties both banks, and no other command
writes a byte. -/
theorem stepKeepsBanksInForm : Obligations.StepKeepsBanksInForm :=
  step_keeps (fun _ _ h => h.congr rfl) fun c _ _ h => effect_keeps_banksInForm c h

/-- Settles O6: a bank becomes active only by a swap that a passed check has left, and the standby bank takes no
write while it waits for one. -/
theorem stepKeepsBanksChecked : Obligations.StepKeepsBanksChecked :=
  step_keeps (fun _ _ h => h.congr rfl) fun c _ _ h => effect_keeps_banksChecked c h

end Sys2Proof.Machine
end

section
/-! TABLE WRITE and TABLE READ. Settles TableWriteReplacesRecords, TableWriteIsRefused and
TableReadReturnsRecords. -/

namespace Sys2Proof.Machine

/-! ### Writing the standby bank (R175, R178) -/

/-- R178: the standby bank takes the bytes. -/
theorem writeStandby_bank_standby (start : Nat) (bytes : List Byte) (b : BankManager) :
    (writeStandby start bytes b).bank b.standbyId = (b.bank b.standbyId).writeBytes start bytes := by
  unfold writeStandby
  cases b.standbyId <;> rfl

/-- R178: the other bank takes none. -/
theorem writeStandby_bank_other (start : Nat) (bytes : List Byte) {b : BankManager} {other : BankId}
    (differs : other ≠ b.standbyId) : (writeStandby start bytes b).bank other = b.bank other := by
  unfold writeStandby
  cases standby : b.standbyId <;> cases other
  · exact absurd standby.symm differs
  · rfl
  · rfl
  · exact absurd standby.symm differs

theorem writeStandby_frame (start : Nat) (bytes : List Byte) (b : BankManager) :
    writeStandby start bytes b =
      { b with bankA := (writeStandby start bytes b).bankA, bankB := (writeStandby start bytes b).bankB } := by
  unfold writeStandby
  cases b.standbyId <;> rfl

/-! ### TABLE WRITE (R177, R178) -/

/-- The Bank Manager stands through the arrival of a request. -/
theorem reserved_afterArrival_banks (s : State) : (reserveReply s.afterArrival).banks = s.banks :=
  (reserved_afterArrival_status s).2.1

theorem serveTableWrite_short {fields : List Byte} (short : fields.length < 3) (s : State) :
    serveTableWrite fields s = respondOwn codeTableWrite .badRequest [] s := by
  unfold serveTableWrite
  split
  · simp only [List.length_cons] at short
    omega
  · rfl

theorem serveTableWrite_noSpan {id first count : Byte}
    (noSpan : tableSpan id.toNat first.toNat count.toNat = none) (records : List Byte) (s : State) :
    serveTableWrite (id :: first :: count :: records) s = respondOwn codeTableWrite .badRequest [] s := by
  simp only [serveTableWrite, noSpan]

section
variable {id first count : Byte} {records : List Byte} {at_ len : Nat} {s : State}

theorem serveTableWrite_badLength (span : tableSpan id.toNat first.toNat count.toNat = some (at_, len))
    (length : records.length ≠ count.toNat * len) :
    serveTableWrite (id :: first :: count :: records) s = respondOwn codeTableWrite .badRequest [] s := by
  simp only [serveTableWrite, span]
  rw [if_pos length]

theorem serveTableWrite_busy (span : tableSpan id.toNat first.toNat count.toNat = some (at_, len))
    (length : records.length = count.toNat * len) (busy : s.banks.state ≠ .idle) :
    serveTableWrite (id :: first :: count :: records) s = respondOwn codeTableWrite .busy [] s := by
  simp only [serveTableWrite, span]
  rw [if_neg (not_not.2 length), if_pos busy]

theorem serveTableWrite_done (span : tableSpan id.toNat first.toNat count.toNat = some (at_, len))
    (length : records.length = count.toNat * len) (idle : s.banks.state = .idle) :
    serveTableWrite (id :: first :: count :: records) s =
      respondOwn codeTableWrite .done [] { s with banks := writeStandby at_ records s.banks } := by
  simp only [serveTableWrite, span]
  rw [if_neg (not_not.2 length), if_neg (not_not.2 idle)]

end

/-- R178: a sound TABLE WRITE in IDLE writes the standby bank and is answered DONE. -/
theorem exec_tableWrite_of_sound {s : State} (open_ : s.northOpen) (free : s.replyFree) {id first count : Byte}
    {records : List Byte} {at_ len : Nat} (span : tableSpan id.toNat first.toNat count.toNat = some (at_, len))
    (length : records.length = count.toNat * len) (fit : records.length ≤ 44) (idle : s.banks.state = .idle) :
    exec (.tableWrite (id :: first :: count :: records)) s =
      .next { s.afterArrival.answered s.address codeTableWrite .done [] with
        banks := writeStandby at_ records s.banks } := by
  have banks := reserved_afterArrival_banks s
  have served := serveTableWrite_done (s := reserveReply s.afterArrival) span length (by rw [banks]; exact idle)
  have address := afterArrival_address s
  refine (live_receiveRequest open_ free codeTableWrite (by simp only [List.length_cons]; omega)).trans
    (congrArg _ (served.trans ?_))
  rw [banks]
  ext1 <;> simp [respondOwn, respond, State.answered, reserveReply, address]

/-- Settles O21: what the written standby bank reads as, and what stands. -/
theorem tableWriteReplacesRecords : Obligations.TableWriteReplacesRecords := by
  intro s id first count records start len size formed open_ free idle layout nonzero inside length fit
  refine ⟨_, exec_tableWrite_of_sound open_ free (tableSpan_of_inside layout nonzero inside) length fit idle,
    rfl, fun a => ?_, fun other differs => writeStandby_bank_other _ _ differs, ?_, ?_, ?_, ?_⟩
  · simp only [writeStandby_bank_standby]
    exact Memory.read_writeBytes _ _ _ _ (formed.bank _)
  all_goals
    simp only
    rw [writeStandby_frame]
  exact idle

/-- Settles O22: no span, a span with records of another length, and a sound write outside IDLE. -/
theorem tableWriteIsRefused : Obligations.TableWriteIsRefused := by
  intro s fields open_ free fit
  refine ⟨fun short => live_receiveRequest_of_served open_ free fit (serveTableWrite_short short _), ?_⟩
  rintro id first count records rfl
  refine ⟨fun noTable => live_receiveRequest_of_served open_ free fit
    (serveTableWrite_noSpan (tableSpan_of_noTable (tableLayout_of_ge noTable) _ _) _ _),
    fun start len size layout => ⟨fun bad => live_receiveRequest_of_served open_ free fit ?_,
      fun nonzero inside length busy => live_receiveRequest_of_served open_ free fit ?_⟩⟩
  · by_cases outside : count.toNat = 0 ∨ size < first.toNat + count.toNat
    · exact serveTableWrite_noSpan (tableSpan_of_outside layout outside) _ _
    · exact serveTableWrite_badLength (tableSpan_of_inside layout (by omega) (by omega))
        fun length => by rcases bad with zero | past | other <;> omega
  · refine serveTableWrite_busy (tableSpan_of_inside layout (by omega) inside) length ?_
    rw [reserved_afterArrival_banks]
    exact busy

/-! ### TABLE READ (R179) -/

/-- R179: the bank that a role names. -/
theorem roleBank_of_named {role : Byte} {b : BankManager} {id : BankId}
    (named : (role = 0#8 ∧ b.active = some id) ∨ (role = 1#8 ∧ b.standbyId = id)) :
    roleBank role b = some (id, b.bank id) := by
  rcases named with ⟨rfl, active⟩ | ⟨rfl, rfl⟩
  · rw [roleBank, if_pos rfl, active]
    rfl
  · rw [roleBank, if_neg (by decide), if_pos rfl]
    rfl

/-- R179: the role ACTIVE while no bank is active, and the roles that there are not. -/
theorem roleBank_of_unnamed {role : Byte} {b : BankManager}
    (unnamed : (role = 0#8 ∧ b.active = none) ∨ (role ≠ 0#8 ∧ role ≠ 1#8)) : roleBank role b = none := by
  rcases unnamed with ⟨rfl, none_⟩ | ⟨notActive, notStandby⟩
  · rw [roleBank, if_pos rfl, none_]
    rfl
  · rw [roleBank, if_neg notActive, if_neg notStandby]

section
variable {role id first count : Byte} {s : State}

theorem serveTableRead_done {at_ len : Nat} {bank : BankId} {m : Memory}
    (span : tableSpan id.toNat first.toNat count.toNat = some (at_, len))
    (named : roleBank role s.banks = some (bank, m)) (fit : 3 + count.toNat * len ≤ 46) :
    serveTableRead [role, id, first, count] s = respondOwn codeTableRead .done
      (u8 (bankCode (some bank)) ++ [id, first] ++ m.readBytes at_ (count.toNat * len)) s := by
  simp only [serveTableRead, span, named]
  rw [if_neg (by omega)]

/-- R179: with no span or no bank, or with more records than fit, there is nothing to return. -/
theorem serveTableRead_bad
    (bad : (∀ at_ len, tableSpan id.toNat first.toNat count.toNat = some (at_, len) → 46 < 3 + count.toNat * len) ∨
      roleBank role s.banks = none) :
    serveTableRead [role, id, first, count] s = respondOwn codeTableRead .badRequest [] s := by
  unfold serveTableRead
  dsimp only
  split
  · next span named =>
    rcases bad with tooMany | unnamed
    · rw [if_pos (tooMany _ _ span)]
    · rw [unnamed] at named; cases named
  · rfl

end

/-- Settles O23: the span and the role are judged in the bank as it stood at the arrival. -/
theorem tableReadReturnsRecords : Obligations.TableReadReturnsRecords := by
  intro s role id first count open_ free
  have banks := reserved_afterArrival_banks s
  have four : [role, id, first, count].length ≤ 47 := by simp
  refine ⟨fun start len size bank layout nonzero inside fit named => ?_, fun bad => ?_⟩
  · have code : u8 (bankCode (some bank)) = [if bank = .a then 1#8 else 2#8] := by cases bank <;> rfl
    have served := serveTableRead_done (s := reserveReply s.afterArrival)
      (tableSpan_of_inside layout nonzero inside) (by rw [banks]; exact roleBank_of_named named) fit
    rw [code] at served
    exact live_receiveRequest_of_served open_ free four served
  · refine live_receiveRequest_of_served open_ free four (serveTableRead_bad ?_)
    rw [banks]
    rcases bad with outside | unnamed
    · refine .inl fun at_ len span => ?_
      obtain ⟨start, size, layout, nonzero, inside, -⟩ := tableSpan_eq_some span
      rcases outside start len size layout with zero | past | tooMany <;> omega
    · exact .inr (roleBank_of_unnamed unnamed)

end Sys2Proof.Machine
end

section
/-! The activation of a bank and the RESTART that ends one: the request, the abort, and the end of the check. Settles
ActivateStartsTheCheck, RestartAbortsAndAnswers and ActivationCheckEnds. -/

namespace Sys2Proof.Machine

/-! ### ACTIVATE (R177, R182) -/

/-- R182: the CRC that two fields carry, high byte first. -/
theorem append_eq_ofNat (hi lo : Byte) : hi ++ lo = BitVec.ofNat 16 (256 * hi.toNat + lo.toNat) := by
  have high := hi.isLt
  have low := lo.isLt
  apply BitVec.eq_of_toNat_eq
  rw [BitVec.toNat_append, ← Nat.shiftLeft_add_eq_or_of_lt low, Nat.shiftLeft_eq, BitVec.toNat_ofNat]
  omega

theorem serveActivate_of_length {fields : List Byte} (h : fields.length ≠ 2) (s : State) :
    serveActivate fields s = respondOwn codeActivate .badRequest [] s := by
  unfold serveActivate
  split
  · exact absurd rfl h
  · rfl

theorem serveActivate_busy {s : State} (busy : s.banks.state ≠ .idle ∨ s.banks.restartPending = true)
    (hi lo : Byte) : serveActivate [hi, lo] s = respondOwn codeActivate .busy [] s := by
  rw [serveActivate, if_pos busy]

/-- R182: a free Bank Manager takes the check up, and no RESPONSE is built. -/
theorem serveActivate_free {s : State} (idle : s.banks.state = .idle) (noRestart : s.banks.restartPending = false)
    (hi lo : Byte) :
    serveActivate [hi, lo] s = { s with banks := { s.banks with state := .checking (hi ++ lo) } } := by
  rw [serveActivate, if_neg (by simp [idle, noRestart])]

/-- The reply queue stands through an arrival, before its entry is reserved. -/
theorem afterArrival_replies (s : State) :
    s.afterArrival.north.reserved = s.north.reserved ∧ s.afterArrival.north.built = s.north.built := by
  rw [afterArrival_frame]
  exact ⟨rfl, rfl⟩

/-- Settles O24: the Bank Manager is judged as it stood at the arrival. -/
theorem activateStartsTheCheck : Obligations.ActivateStartsTheCheck := by
  intro s open_ free
  have banks := reserved_afterArrival_banks s
  refine ⟨fun hi lo idle noRestart => ?_, fun hi lo busy => ?_, fun fields length fit => ?_⟩
  · have served := serveActivate_free (s := reserveReply s.afterArrival) (by rw [banks]; exact idle)
      (by rw [banks]; exact noRestart) hi lo
    refine (live_receiveRequest open_ free codeActivate (by simp)).trans (congrArg _ (served.trans ?_))
    rw [banks, append_eq_ofNat, reserveReply, (afterArrival_replies s).1]
  · exact live_receiveRequest_of_served open_ free (by simp) (serveActivate_busy (by rw [banks]; exact busy) hi lo)
  · exact live_receiveRequest_of_served open_ free fit (serveActivate_of_length length _)

/-! ### RESTART (R189, R191) -/

/-- R189: the RESPONSE that ends an activation in progress. -/
def abortReplies (s : State) : List Response :=
  if s.banks.state = .idle then []
  else [{ source := s.address, echo := codeActivate, result := .aborted, payload := [], mark := .plain }]

/-- R189: an activation in progress gives its entry away and is answered; with none, nothing ends. -/
theorem abortActivation_eq (s : State) :
    abortActivation s = { s with
      banks := { s.banks with state := .idle }
      north := { s.north with
        reserved := if s.banks.state = .idle then s.north.reserved else s.north.reserved - 1
        built := s.north.built ++ abortReplies s } } := by
  unfold abortActivation
  split
  · next idle => rw [abortReplies, if_pos idle, if_pos idle, List.append_nil, ← idle]
  · next busy =>
    rw [abortReplies, if_neg busy, if_neg busy]
    rfl

/-- R189, R191: a RESTART aborts, sets the mark and is answered in the entry of its own. -/
theorem serveRestart_nil (s : State) :
    serveRestart [] s = { s with
      banks := { s.banks with state := .idle, restartPending := true }
      north := { s.north with
        reserved := (if s.banks.state = .idle then s.north.reserved else s.north.reserved - 1) - 1
        built := s.north.built ++ abortReplies s ++
          [{ source := s.address, echo := codeRestart, result := .done, payload := [],
             mark := if s.banks.restartPending then .plain else .restartDone }] } } := by
  simp only [serveRestart, abortActivation_eq, buildResponse]

theorem serveRestart_of_fields {fields : List Byte} (nonempty : fields ≠ []) (s : State) :
    serveRestart fields s = respondOwn codeRestart .badRequest [] s := by
  cases fields with
  | nil => exact absurd rfl nonempty
  | cons => rfl

/-- Settles O28: of the entries, the RESTART's own is reserved and given away at once. -/
theorem restartAbortsAndAnswers : Obligations.RestartAbortsAndAnswers := by
  intro s open_ free
  have banks := reserved_afterArrival_banks s
  obtain ⟨reserved, built⟩ := afterArrival_replies s
  have entries : (if s.banks.state = .idle then s.north.reserved + 1 else s.north.reserved + 1 - 1) - 1 =
      if s.banks.state = .idle then s.north.reserved else s.north.reserved - 1 := by
    split <;> rfl
  refine ⟨(live_receiveRequest open_ free codeRestart (by simp)).trans
    (congrArg _ ((serveRestart_nil _).trans ?_)),
    fun fields nonempty fit => live_receiveRequest_of_served open_ free fit (serveRestart_of_fields nonempty _)⟩
  rw [abortReplies, banks, reserveReply_north, reserved, built, entries]
  ext1 <;> simp [afterArrival_address, codeActivate, codeRestart]

/-! ### The end of the check (R183 to R185, R187) -/

/-- R184: the checks are numbered from 1. -/
theorem numberedChecks_getElem? (m : Memory) (i : Nat) :
    (numberedChecks m)[i]? = ((tenChecks m)[i]?).map fun passed => (i + 1, passed) := by
  have numbered : numberedChecks m = (tenChecks m).mapIdx fun i passed => (i + 1, passed) := rfl
  rw [numbered, List.getElem?_mapIdx]

/-- R184: the first check that fails, by its number. -/
theorem firstFailedCheck_of_first {m : Memory} {k : Nat} (failed : (tenChecks m)[k]? = some false)
    (before : ∀ j, j < k → (tenChecks m)[j]? = some true) : firstFailedCheck m = some (k + 1) := by
  have found : (numberedChecks m).find? (fun c => !c.2) = some (k + 1, false) := by
    refine List.find?_eq_some_iff_getElem.2 ⟨rfl, k, ?_⟩
    have place : (numberedChecks m)[k]? = some (k + 1, false) := by rw [numberedChecks_getElem?, failed]; rfl
    obtain ⟨inside, at_⟩ := List.getElem?_eq_some_iff.1 place
    refine ⟨inside, at_, fun j earlier => ?_⟩
    have passed : (numberedChecks m)[j]? = some (j + 1, true) := by
      rw [numberedChecks_getElem?, before j earlier]; rfl
    obtain ⟨_, e⟩ := List.getElem?_eq_some_iff.1 passed
    rw [e]
    rfl
  rw [firstFailedCheck, found]
  rfl

section
variable {s : State} {expected : Crc}

/-- R185: a check in progress ends. -/
theorem exec_activationCheckEnd_of_checking (running : s.held = false) (checking : s.banks.state = .checking expected) :
    exec .activationCheckEnd s = .next (checkEnd expected s) := by
  rw [exec_of_running _ running]
  simp only [effect, checkEndStep, checking]

theorem checkEnd_mismatch (crc : crc16 (imageOf s.banks.standbyBank) ≠ expected) :
    checkEnd expected s = failActivation .crcMismatch [] s := by
  rw [checkEnd, bankImage_eq_imageOf, if_pos crc]

theorem checkEnd_failed {n : Nat} (crc : crc16 (imageOf s.banks.standbyBank) = expected)
    (failed : firstFailedCheck s.banks.standbyBank = some n) :
    checkEnd expected s = failActivation .checkFailed (u8 n) s := by
  rw [checkEnd, bankImage_eq_imageOf, if_neg (not_not.2 crc), failed]

/-- R187: with a bank active the swap waits for the close. -/
theorem checkEnd_passed_configured (crc : crc16 (imageOf s.banks.standbyBank) = expected)
    (passed : firstFailedCheck s.banks.standbyBank = none) (configured : s.control.device ≠ .unconfigured) :
    checkEnd expected s = { s with banks := { s.banks with state := .swapPending } } := by
  rw [checkEnd, bankImage_eq_imageOf, if_neg (not_not.2 crc), passed]
  dsimp only
  split
  · exact absurd ‹_› configured
  · rfl

end

/-- Settles O56: the CRC is judged ahead of the checks, and of these the first that fails counts. -/
theorem activationCheckEnds : Obligations.ActivationCheckEnds := by
  rintro s expected m running checking rfl
  rw [exec_activationCheckEnd_of_checking running checking]
  refine ⟨fun mismatch => ?_, fun n crc low high failed before => ?_, fun crc passes configured => ?_⟩
  · rw [checkEnd_mismatch mismatch]
    rfl
  · have first := firstFailedCheck_of_first failed before
    rw [Nat.sub_add_cancel low] at first
    rw [checkEnd_failed crc first]
    rfl
  · rw [checkEnd_passed_configured crc (firstFailedCheck_of_tenChecks passes) configured]

end Sys2Proof.Machine
end

section
/-! SUPPORT. The step on a queue that holds a command. -/

namespace Sys2Proof.Machine

/-- Settles O1: of the step's two cases, an idle part (log 16) and a front command (log 24), a queue that is
a cons leaves the second. -/
theorem stepRunsFrontCommand : Obligations.StepRunsFrontCommand := by
  intro c rest s front
  unfold step
  split
  · next empty => exact absurd (front.symm.trans empty) (List.cons_ne_nil c rest)
  · next queue =>
    obtain ⟨rfl, rfl⟩ := List.cons.inj (queue.symm.trans front)
    rfl

end Sys2Proof.Machine
end
